-- ==== Sys2Proof/Word.lean ====
section
/-! DEFINITION. The word types of the KA-24 as its ports and sample links see them. -/

namespace Sys2Proof

/-- One byte of a sample frame (1.1) or one half of a port word. -/
abbrev Byte := BitVec 8

/-- One word of a serial port: 16 bits, sent most significant bit first (R170). -/
abbrev Word := BitVec 16

/-- A 32-bit count of the part: the second count, an epoch, a sequence number or a window number. -/
abbrev Count := BitVec 32

end Sys2Proof
end

