-- ==== Sys2Proof/Config.lean ====
section
/-! DEFINITION. The constants the manual fixes for the part, and the free values: the values it leaves open. -/

namespace Sys2Proof.Config

/-- The load of the silence counter in ticks (R3). -/
def silenceTicks : Nat := 5000

/-- The least distance in ticks from one marker to the next of the same incomer (R5), and the lower
bound of the fourth test of a good cycle (R7). -/
def markerSpacing : Nat := 150000

/-- The upper bound in ticks of the fourth test of a good cycle (R7). -/
def cycleMaxTicks : Nat := 225000

/-- Frames of a good cycle (R7), and the tally from which a frame is surplus (R6). -/
def cycleFrames : Nat := 256

/-- The bad-cycle run at which a LOCKED receiver goes to ACQUIRING (R8). -/
def badRunLimit : Nat := 3

/-- The marker count at which a window closes (R11). -/
def windowMarkers : Nat := 8

/-- Samples per channel that a bank holds (1.4, R9). -/
def bankDepth : Nat := 2048

/-- The window time limit in ticks at 50 Hz nominal (R10). -/
def limit50 : Nat := 2000000

/-- The window time limit in ticks at 60 Hz nominal (R10). -/
def limit60 : Nat := 1666670

/-- The largest magnitude of a phasor component (R29, R32, R34). -/
def phasorMax : Int := 8388607

/-- The longest invalid run for which an invalid window can be SUBSTITUTED (R51). -/
def maxSubstituted : Nat := 8

/-- The top of the invalid run (R52), and of the merged-closure and interruption counts (R82). -/
def count16Max : Nat := 65535

/-- The top of the VALID, SUBSTITUTED, GAP and SKIPPED counts (R82). -/
def count32Max : Nat := 4294967295

/-- The largest value of a bin, 2^63 - 1 energy units (R83). -/
def binMax : Nat := 9223372036854775807

/-- The largest RATE measure, 2^64 - 1 (R132). -/
def rateMax : Nat := 18446744073709551615

/-- The factor of the RATE measure (R132). -/
def rateFactor : Nat := 36000000000

/-- A pulse closer than this to the reference pulse is early (R106). -/
def pulseMin : Nat := 9999000

/-- A pulse farther than this from the reference pulse is a new reference (R106). -/
def pulseMax : Nat := 10001000

/-- Ticks since the last accepted pulse at which TRACKING goes to HOLDOVER (R107). -/
def holdoverTicks : Nat := 15000000

/-- The free-run counter's top, one second of ticks (R107). -/
def freeRunTicks : Nat := 10000000

/-- The load of the lapse timer in seconds (R70, R71). -/
def lapseSeconds : Nat := 300

/-- Physical slots of an account's ring (R122). -/
def ringDepth : Nat := 32

/-- The longest interval period in seconds (R81, R85). -/
def maxPeriod : Nat := 86400

/-- The greatest number of bins of an account (R81, R85). -/
def maxBins : Nat := 40

/-- The highest quantity code (R81, R85). -/
def maxCode : Nat := 33

/-- The crossing count of a pending entry is held here (R136). -/
def crossingMax : Nat := 255

/-- The largest value read in COMPACT format (R176). -/
def compactMax : Nat := 2147483647

/-- The largest exponent k of SET_PORT (R182). -/
def maxExponent : Nat := 6

/-- FREE VALUE. What a readout shows in a field whose content the spec calls absent without giving the bits
read there (an epoch, a window number, a band, a cause, an account number: log entry 5). The first argument is
the count of free values drawn before (`Machine.State.freeDraws`), the second the position of the word in its
item. It has no body, so no proof can rest on what it is. -/
opaque absentWord : Nat → Nat → BitVec 16

/-- FREE VALUE. What a history record shows in a field that R121 calls absent (an epoch, a window number: log entry 5).
The arguments are the account, the record's sequence number and end second, and the position of the word in the record,
so that a record reads the same at each read. It has no body, so no proof can rest on what it is. -/
opaque absentRecordWord : Nat → BitVec 32 → BitVec 32 → Nat → BitVec 16

/-- FREE VALUE. What a word reads that is shifted while the port is in no transaction though chip select is low, the fall
having come before the port reset input deasserted or before a start: no rule gives its bits (log entry 35). The argument is
the count of free values drawn before. It has no body, so no proof can rest on what it is. -/
opaque ignoredWord : Nat → BitVec 16

/-- FREE VALUE. The quotient of a rounded division by zero. The spec divides by window lengths alone (R54, R132)
and no window of length zero closes, so no run reaches it (log entry 6). -/
opaque quotientByZero : Int → Int

end Sys2Proof.Config
end

