-- ==== Sys2Proof/Syntax.lean ====
section
/-! DEFINITION. The commands of the KA-24: one constructor of `Instr` for each row of spec/opcode_table.json. -/

namespace Sys2Proof

/-- The three serial ports (00_scope.md, Ports). -/
inductive Port where
  | U
  | F
  | C
  deriving DecidableEq, Repr

/-- The two incomers (00_scope.md). -/
inductive Incomer where
  | A
  | B
  deriving DecidableEq, Repr

/-- The row of the command table that a head word's transaction belongs to, judged by R170 and R171. -/
inductive TxKind where
  /-- A read of a space open to every port (R153): PORT items 0, 3 and 4, RESULT, JOINT. -/
  | openItem
  | pendingSet
  | faultRecord
  | account
  | bins
  | history
  | freeze
  | draft
  | request
  | badFraming
  | wrongDirection
  | absentItem
  deriving DecidableEq, Repr

/-- One event of a transaction at a port (R170). -/
inductive TxEvent where
  /-- Chip select falls, whichever row the head word will turn out to be of (log entry 11). -/
  | fall
  /-- The head word `w` is complete. -/
  | head (w : Word)
  /-- One further complete word: the offset word or a data word. `w` is the word the master shifts in. -/
  | word (w : Word)
  /-- Chip select rises. -/
  | rise
  deriving DecidableEq, Repr

/-- The commands of the block. Each docstring names the row and its rule. A request row (OPEN_ACCOUNT to SET_PORT)
is the event at which the owning block takes the sender's request in flight (R177), so its parameters are those of
the record in flight and its operand is the port. A transaction row carries one event of its transaction. -/
inductive Instr where
  /-- FRAME_ARRIVAL (R1): the fifteen bytes of a frame arrive at the link receiver of `i`. -/
  | frameArrival (i : Incomer) (bytes : Vector Byte 15)
  /-- SILENCE_EXPIRY (R3). -/
  | silenceExpiry (i : Incomer)
  /-- TIME_LIMIT_CLOSE (R12). -/
  | timeLimitClose (i : Incomer)
  /-- TRANSFORM_BEGIN (R21). -/
  | transformBegin
  /-- INVALID_ENTRY_LEAVE (R22). -/
  | invalidEntryLeave
  /-- TRANSFORM_COMPLETION (R23). -/
  | transformCompletion
  /-- POSTING_TAKE (R92). -/
  | postingTake
  /-- POSTING (R93): the visit of the account at the visit position. -/
  | posting
  /-- SECOND_PULSE (R106). -/
  | secondPulse
  /-- HOLDOVER_ENTRY (R107). -/
  | holdoverEntry
  /-- FREE_RUN_TICK (R107). -/
  | freeRunTick
  /-- TIMER_CLOSE_BEGIN (R113) of account `n`. -/
  | timerCloseBegin (n : Fin 24)
  /-- RECORD_WRITTEN (R118) of account `n`. -/
  | recordWritten (n : Fin 24)
  /-- PENDING_CLOSE_BEGIN (R119) of account `n`. -/
  | pendingCloseBegin (n : Fin 24)
  /-- DEFERRED_CLOSE_BEGIN (R120) of account `n`. -/
  | deferredCloseBegin (n : Fin 24)
  /-- LAPSE (R72). -/
  | lapse
  /-- SLOT_TIMER_EXPIRY (R164) of freeze buffer `b`. -/
  | slotTimerExpiry (b : Fin 2)
  /-- DEFERRED_RECLAIM (R165) of freeze buffer `b`. -/
  | deferredReclaim (b : Fin 2)
  /-- REQUEST_RECORD (R177): a write transaction of the REQUEST space. -/
  | requestRecord (p : Port) (e : TxEvent)
  /-- OPEN_ACCOUNT (R85, R86). -/
  | openAccount (p : Port)
  /-- SET_RIGHTS (R87). -/
  | setRights (p : Port)
  /-- SUSPEND (R88). -/
  | suspend (p : Port)
  /-- RESUME (R88). -/
  | resume (p : Port)
  /-- CLEAR_BINS (R89). -/
  | clearBins (p : Port)
  /-- CLOSE_INTERVAL (R114). -/
  | closeInterval (p : Port)
  /-- RELEASE_RECORDS (R123). -/
  | releaseRecords (p : Port)
  /-- SET_WATCH (R130). -/
  | setWatch (p : Port)
  /-- TEARDOWN (R90). -/
  | teardown (p : Port)
  /-- FREEZE (R157). -/
  | freeze (p : Port)
  /-- UNFREEZE (R160). -/
  | unfreeze (p : Port)
  /-- LOAD_DRAFT (R68). -/
  | loadDraft (p : Port)
  /-- PROPOSE (R70). -/
  | propose (p : Port)
  /-- CONCUR (R73). -/
  | concur (p : Port)
  /-- WITHDRAW (R76). -/
  | withdraw (p : Port)
  /-- SET_TIME (R110). -/
  | setTime (p : Port)
  /-- SELECT_BAND (R111). -/
  | selectBand (p : Port)
  /-- SET_PORT (R182). -/
  | setPort (p : Port)
  /-- DRAFT_WRITE (R67): a write transaction of JOINT item 1. -/
  | draftWrite (p : Port) (e : TxEvent)
  /-- STATUS_READ (R180): a read of PORT item 0; the row also carries the reads of the other spaces open to every
  port that have no row of their own (R153: PORT items 3 and 4, RESULT, JOINT; log entry 3). -/
  | statusRead (p : Port) (e : TxEvent)
  /-- PENDING_SET_READ (R137). -/
  | pendingSetRead (p : Port) (e : TxEvent)
  /-- FAULT_RECORD_READ (R152). -/
  | faultRecordRead (p : Port) (e : TxEvent)
  /-- ACCOUNT_READ (R103). -/
  | accountRead (p : Port) (e : TxEvent)
  /-- BINS_READ (R145). -/
  | binsRead (p : Port) (e : TxEvent)
  /-- RING_WALK (R125). -/
  | ringWalk (p : Port) (e : TxEvent)
  /-- FREEZE_READ (R166). -/
  | freezeRead (p : Port) (e : TxEvent)
  /-- BAD_FRAMING (R170). -/
  | badFraming (p : Port) (e : TxEvent)
  /-- WRONG_DIRECTION_ACCESS (R150). -/
  | wrongDirectionAccess (p : Port) (e : TxEvent)
  /-- PORT_RESET (R183): the port reset input of `p` asserts. -/
  | portReset (p : Port)
  /-- SUPPLY_FALLING (R186). -/
  | supplyFalling
  /-- RETENTION_LOSS (R188). -/
  | retentionLoss
  /-- POWER_ON_RESET (R188). -/
  | powerOnReset
  /-- ABSENT_ITEM_ACCESS (R150). -/
  | absentItemAccess (p : Port) (e : TxEvent)
  /-- PORT_RESET_DEASSERTION (R183): the port reset input of `p` deasserts. -/
  | portResetDeassertion (p : Port)
  deriving DecidableEq, Repr

end Sys2Proof
end

