-- ==== Sys2Proof/Machine/State.lean ====
section
/-! DEFINITION. The state of the KA-24, all plain data, and the machine right after a cold start (R18, R38, R62, R66,
R78, R105, R128, R141, R154, R169, R184, R188, R190). -/

namespace Sys2Proof.Machine

/-- The part stops for no command: the manual describes no operation or event that stops it, so no meaning raises a
fault and the type has no constructor. Safe: nothing can be claimed of a fault. -/
inductive Fault where
  deriving DecidableEq, Repr

/-- Why a command has no meaning in the model. -/
inductive Refusal where
  /-- Raised by an arm of `exec` for a row that has no meaning yet; no arm raises it. Safe: the machine stops. -/
  | notModelled (mnemonic : String)
  deriving DecidableEq, Repr

/-! ### Things held once per port, per incomer -/

/-- One thing for each of the three ports. -/
structure PerPort (α : Type) where
  u : α
  f : α
  c : α
  deriving DecidableEq, Repr

/-- The thing of port `p`. -/
def PerPort.get {α : Type} (x : PerPort α) : Port → α
  | .U => x.u
  | .F => x.f
  | .C => x.c

/-- `x` with port `p`'s thing replaced. -/
def PerPort.set {α : Type} (x : PerPort α) (p : Port) (a : α) : PerPort α :=
  match p with
  | .U => { x with u := a }
  | .F => { x with f := a }
  | .C => { x with c := a }

/-- `f` applied to the thing of each port. -/
def PerPort.map {α β : Type} (f : α → β) (x : PerPort α) : PerPort β :=
  { u := f x.u, f := f x.f, c := f x.c }

/-- One thing for each of the two incomers. -/
structure PerIncomer (α : Type) where
  a : α
  b : α
  deriving DecidableEq, Repr

/-- The thing of incomer `i`. -/
def PerIncomer.get {α : Type} (x : PerIncomer α) : Incomer → α
  | .A => x.a
  | .B => x.b

/-- `x` with incomer `i`'s thing replaced. -/
def PerIncomer.set {α : Type} (x : PerIncomer α) (i : Incomer) (v : α) : PerIncomer α :=
  match i with
  | .A => { x with a := v }
  | .B => { x with b := v }

/-- `f` applied to the thing of each incomer. -/
def PerIncomer.map {α β : Type} (f : α → β) (x : PerIncomer α) : PerIncomer β :=
  { a := f x.a, b := f x.b }

/-! ### Link receivers (1.2, 1.3) -/

/-- The states of a link receiver (1.2). -/
inductive LinkState where
  | down
  | acquiring
  | locked
  deriving DecidableEq, Repr

/-- The cycle tally (R6). -/
structure CycleTally where
  /-- The marker time of the opening marker. -/
  start : Nat
  /-- The receiver's state when the cycle opened. -/
  openedIn : LinkState
  /-- Frames taken in the cycle, the opening marker included. -/
  frames : Nat
  /-- The flaw mark. -/
  flawed : Bool
  deriving DecidableEq, Repr

/-- The link receiver of an incomer (R2, R3, R5, R6, R8). -/
structure Receiver where
  state : LinkState
  /-- The silence counter, 0 to 5,000 ticks (R3). -/
  silence : Nat
  /-- The expected sequence number, or absent (R2). -/
  expected : Option (BitVec 4)
  /-- The arrival tick of the last marker since start (R5). -/
  lastMarker : Option Nat
  /-- The open cycle's tally (R6). -/
  cycle : Option CycleTally
  /-- The bad-cycle run (R8). -/
  badRun : Nat
  deriving DecidableEq, Repr

/-! ### Window assemblers (1.4, 1.5) -/

/-- The six samples of one frame: V1, V2, V3, I1, I2, I3 (1.1). -/
abbrev Row := Vector Word 6

/-- A sample bank (1.4): its held condition and the rows written to it, row n the samples numbered n. -/
structure Bank where
  held : Bool
  rows : List Row
  deriving DecidableEq, Repr

/-- The open window of an assembler (1.4). -/
structure OpenWindow where
  /-- Window start tick. -/
  start : Nat
  /-- The time limit latched at the opening (R10). -/
  limit : Nat
  /-- The fill count, 0 to 2048. -/
  fill : Nat
  /-- The marker count, 0 to 8. -/
  markers : Nat
  /-- The aligned mark. -/
  aligned : Bool
  /-- The goodness mark. -/
  good : Bool
  deriving DecidableEq, Repr

/-- The states of an assembler (1.4). An open window exists in OPEN alone. -/
inductive AsmState where
  | disabled
  | awaiting
  | opened (w : OpenWindow)
  deriving DecidableEq, Repr

/-- The window assembler of an incomer (1.4). -/
structure Assembler where
  state : AsmState
  bank0 : Bank
  bank1 : Bank
  /-- The filling bank. -/
  filling : Fin 2
  /-- The number the open window will carry at close. -/
  nextWindow : Count
  deriving DecidableEq, Repr

/-- The close cause of a window (R11, R12). -/
inductive WindowCause where
  | markers
  | timeLimit
  deriving DecidableEq, Repr

/-- An entry of the transform wait list (R19): the stamps of R14 and, for a valid window, its bank. -/
structure WaitEntry where
  incomer : Incomer
  window : Count
  ticks : Nat
  cause : WindowCause
  band : BitVec 3
  /-- The bank of a valid window; absent for an invalid window, which joins as a verdict only (R15). -/
  bank : Option (Fin 2)
  deriving DecidableEq, Repr

/-! ### The joint table (R63, R67, R69) -/

/-- The fields of the joint table but for the epoch, each at the width the JOINT layout gives it (R63, R67, 10.7).
The committed table, a draft and a proposal all hold these fields; what range they keep to is `Table.valid`. -/
structure Table where
  frequency : Word
  enabled : PerIncomer Bool
  weight : PerIncomer (BitVec 32)
  /-- Gains of V1, V2, V3, I1, I2, I3 of A, then of B. -/
  gain : Vector Word 12
  /-- Skews, channels in the same order. -/
  skew : Vector (BitVec 12) 12
  /-- Classes of the orders 2 to 50; 15 is UNCLASSED. -/
  classMap : Vector (BitVec 4) 49
  /-- Inductive ratios rL of the bands 0 to 7. -/
  inductiveRatio : Vector Word 8
  /-- Capacitive ratios rC of the bands 0 to 7. -/
  capacitiveRatio : Vector Word 8
  slotLength : Byte
  deriving DecidableEq, Repr

/-- The draft of port U or port F with its base epoch (R67). -/
structure Draft where
  table : Table
  baseEpoch : Count
  deriving DecidableEq, Repr

/-- The pending proposal (R69). -/
structure Proposal where
  table : Table
  proposer : Port
  serial : Word
  /-- The lapse timer, in seconds remaining (R71). -/
  remaining : Nat
  deriving DecidableEq, Repr

/-- The joint table unit (chapter 4). -/
structure Joint where
  committed : Table
  epoch : Count
  serialCounter : Word
  proposal : Option Proposal
  draftU : Draft
  draftF : Draft
  deriving DecidableEq, Repr

/-! ### The transform engine (chapter 2) -/

/-- The window in flight and the snapshot of its begin (R21, R25). -/
structure Flight where
  entry : WaitEntry
  /-- The snapshot of the committed joint table. -/
  snapshot : Table
  /-- The snapshot's epoch. -/
  epoch : Count
  deriving DecidableEq, Repr

/-- The transform engine (R20, R21, R35): IDLE when no window is in flight, else TRANSFORMING. -/
structure Engine where
  flight : Option Flight
  /-- The window's LIMITED flag. -/
  limited : Bool
  deriving DecidableEq, Repr

/-! ### The increment calculator (chapter 3) -/

/-- The disposition of a window result with the figures it carries (R51, R57). -/
inductive Figures where
  /-- VALID: 34 increments and the 15 raw figures. -/
  | valid (increments : List Nat) (raw : List Int)
  /-- SUBSTITUTED: 34 increments. -/
  | substituted (increments : List Nat)
  /-- GAP: neither. -/
  | gap
  deriving DecidableEq, Repr

/-- The window result record (R57). -/
structure ResultRecord where
  incomer : Incomer
  window : Count
  epoch : Count
  band : BitVec 3
  cause : WindowCause
  ticks : Nat
  limited : Bool
  figures : Figures
  deriving DecidableEq, Repr

/-- The substitution source (R53). -/
structure Source where
  increments : List Nat
  ticks : Nat
  epoch : Count
  limited : Bool
  deriving DecidableEq, Repr

/-- The increment calculator's state of one incomer (chapter 3). -/
structure Calc where
  source : Option Source
  /-- The invalid run (R52). -/
  invalidRun : Nat
  /-- The latest result (R60). -/
  latest : Option ResultRecord
  deriving DecidableEq, Repr

/-- The record in posting and the visit position (R92). -/
structure Visit where
  record : ResultRecord
  position : Nat
  deriving DecidableEq, Repr

/-- The posting unit (R92). -/
structure Posting where
  waiting : List ResultRecord
  current : Option Visit
  deriving DecidableEq, Repr

/-! ### Accounts (chapters 5 to 7) -/

/-- The scope of an account (R81). -/
inductive Scope where
  | A
  | B
  | site
  deriving DecidableEq, Repr

/-- The interval mode (R81). -/
inductive Mode where
  | reset
  | running
  deriving DecidableEq, Repr

/-- The ring policy (R81). -/
inductive Policy where
  | wrap
  | hold
  deriving DecidableEq, Repr

/-- The right of a non-owner port on an account (R81). -/
inductive Right where
  | none
  | read
  | readFreeze
  deriving DecidableEq, Repr

/-- The rights of the two non-owner ports, in the order U, F, C (R81, 10.7). -/
structure Rights where
  first : Right
  second : Right
  deriving DecidableEq, Repr

/-- A bin (R83) with its entry of the bin list and its visibility (R81). -/
structure Bin where
  /-- The quantity code. -/
  code : Nat
  /-- Set for OWNER_ONLY, clear for SHARED. -/
  ownerOnly : Bool
  value : Nat
  /-- The pinned mark. -/
  pinned : Bool
  deriving DecidableEq, Repr

/-- The part of the open interval header held per incomer (R82). -/
structure Tally where
  /-- First and last window numbers; both absent until one result of the incomer is posted. -/
  windows : Option (Count × Count)
  valid : Nat
  substituted : Nat
  gap : Nat
  skipped : Nat
  deriving DecidableEq, Repr

/-- The open interval header (R82). -/
structure Header where
  sequence : Count
  startSecond : Count
  /-- Epoch at start and latest epoch; both absent until one result is booked. -/
  epochs : Option (Count × Count)
  tally : PerIncomer Tally
  /-- The merged-closure count. -/
  merged : Nat
  /-- The interruption count. -/
  interruptions : Nat
  limited : Bool
  pinnedAny : Bool
  cleared : Bool
  freeRunning : Bool
  timeSet : Bool
  timeSuspect : Bool
  epochChanged : Bool
  deriving DecidableEq, Repr

/-- The cause of a close (6.3, R121). -/
inductive CloseCause where
  | manual
  | timer
  | bandChange
  | deferred
  deriving DecidableEq, Repr

/-- A history record (R121). A WRITING record's content is the interrupted-close snapshot that the retention domain
keeps for its account (R187). -/
structure HistoryRecord where
  /-- Set while WRITING, clear once STORED. -/
  writing : Bool
  /-- The physical slot, 0 to 31 (R122, R187). -/
  slot : Nat
  cause : CloseCause
  endSecond : Count
  /-- The header at the close begin; its sequence is the record's, its latest epoch the epoch at end. -/
  header : Header
  /-- The bin values in bin-list order. -/
  values : List Nat
  deriving DecidableEq, Repr

/-- The ring of an account (R122): its records, oldest first, and the physical slot that the next record takes when
the ring is empty. -/
structure Ring where
  records : List HistoryRecord
  emptySlot : Nat
  deriving DecidableEq, Repr

/-- The measure of a watch (R131, R132). -/
inductive Measure where
  | total
  | rate
  deriving DecidableEq, Repr

/-- The signalling of a watch (R129). -/
inductive Signalling where
  | edge
  | level
  deriving DecidableEq, Repr

/-- A watch (R129). -/
structure Watch where
  enabled : Bool
  bin : Nat
  measure : Measure
  high : Nat
  low : Nat
  signalling : Signalling
  route : PerPort Bool
  /-- The state: set for ABOVE, clear for BELOW. -/
  above : Bool
  deriving DecidableEq, Repr

/-- The record of an OPEN or SUSPENDED account (R81). The owner is fixed by the slot number (R80), and a FREE slot
holds no record. -/
structure Account where
  /-- Set for SUSPENDED, clear for OPEN. -/
  suspended : Bool
  scope : Scope
  /-- The bin list with the bins and the visibility, in bin-list order. -/
  bins : List Bin
  /-- The band mask: bit b for band b. -/
  bandMask : Byte
  period : Nat
  closeOnBandChange : Bool
  mode : Mode
  policy : Policy
  rights : Rights
  header : Header
  watches : Vector Watch 4
  lastBand : Option (BitVec 3)
  /-- The pending-close mark with the cause it holds. -/
  pendingClose : Option CloseCause
  deferredClose : Bool
  ring : Ring
  /-- The timer-due mark (R113), held by the interval controller for this account. -/
  timerDue : Bool
  deriving DecidableEq, Repr

/-! ### The interval controller (chapter 6) -/

/-- The time-base states (R107). -/
inductive TimeState where
  | unset
  | tracking
  | holdover
  deriving DecidableEq, Repr

/-- The interval controller's own state (chapter 6); the timer-due marks stand with their accounts. -/
structure TimeBase where
  second : Count
  state : TimeState
  /-- The reference pulse tick. -/
  reference : Option Nat
  /-- The acceptance streak, 0 to 2. -/
  streak : Nat
  /-- The last accepted pulse tick. -/
  lastAccepted : Option Nat
  /-- The free-run counter, 0 to 10,000,000. -/
  freeRun : Nat
  /-- The current band. -/
  band : BitVec 3
  deriving DecidableEq, Repr

/-! ### The freeze unit (chapter 9) -/

/-- What a copy holds of an OPEN or SUSPENDED account (R156). -/
structure CopyBody where
  suspended : Bool
  header : Header
  /-- Bin list, visibility, values and pinned marks. -/
  bins : List Bin
  deriving DecidableEq, Repr

/-- A freeze copy (R156). Its owner is the slot's (R80); a copy of a FREE slot has no body. -/
structure Copy where
  account : Nat
  second : Count
  body : Option CopyBody
  /-- The model's own: the draw of free values that the copy shows in absent fields, the same at each read (R166; log
  entry 5). -/
  draw : Nat
  deriving DecidableEq, Repr

/-- What a HELD freeze buffer holds (R155). -/
structure Holding where
  holder : Port
  copy : Copy
  /-- The reclaim-due mark. -/
  reclaimDue : Bool
  deriving DecidableEq, Repr

/-- A freeze buffer (R155): FREE when nothing is held. The timer of a FREE buffer keeps its value (R162). -/
structure Buffer where
  timer : Nat
  held : Option Holding
  deriving DecidableEq, Repr

/-- An entry of the waiting list (R155). -/
structure Waiter where
  port : Port
  account : Nat
  deriving DecidableEq, Repr

/-- The freeze unit (R155). -/
structure FreezeUnit where
  buffer0 : Buffer
  buffer1 : Buffer
  waiting : List Waiter
  deriving DecidableEq, Repr

/-! ### The port controllers (chapters 7, 8 and 10) -/

/-- A crossing (R134). -/
inductive Crossing where
  | rise
  | fall
  deriving DecidableEq, Repr

/-- An entry of a port's pending set (R136). -/
structure PendingEntry where
  account : Nat
  watch : Nat
  first : Crossing
  latest : Crossing
  count : Nat
  /-- Crossings recorded since the head word of the port's pending-set read (R137). -/
  sinceCount : Nat
  /-- The first of them (R137). -/
  sinceFirst : Crossing
  deriving DecidableEq, Repr

/-- The kind of a fault (R151). -/
inductive FaultKind where
  | absentAccount
  | absentEntry
  | rights
  | notHeld
  | wrongDirection
  deriving DecidableEq, Repr

/-- The content of a full fault record (R151). -/
structure FaultInfo where
  kind : FaultKind
  /-- The operation: set for REQUEST, clear for READ. -/
  request : Bool
  account : Option Byte
  entry : Option Byte
  deriving DecidableEq, Repr

/-- A port's fault record (R151): empty when it has no content. -/
structure FaultRecord where
  content : Option FaultInfo
  overflow : Bool
  deriving DecidableEq, Repr

/-- The response codes of the ports (10.7). -/
inductive Response where
  | done
  | accepted
  | busy
  | notOwner
  | notPermitted
  | inUse
  | invalid
  | duplicate
  | unreleased
  | noProposal
  | stale
  | alreadyHolding
  | alreadyWaiting
  | rights
  | unknown
  deriving DecidableEq, Repr

/-- What the response slot shows (R178). -/
inductive ResponseSlot where
  | none
  | inProgress (code : Byte)
  | answered (code : Byte) (response : Response)
  deriving DecidableEq, Repr

/-- A request record: its request code and its data words (R177). -/
structure Request where
  code : Byte
  words : List Word
  deriving DecidableEq, Repr

/-- The readout formats (R175). -/
inductive Format where
  | full
  | whole
  | compact
  deriving DecidableEq, Repr

/-- A port's settings (R182). -/
structure Settings where
  format : Format
  exponent : Nat
  /-- One enable per indication, bit positions as in the status word. -/
  enables : BitVec 12
  deriving DecidableEq, Repr

/-- The readout format and exponent that a transaction is served in (R182). -/
structure Readout where
  format : Format
  exponent : Nat
  deriving DecidableEq, Repr

/-- The readout that the settings give a transaction that begins now (R182). -/
def Settings.readout (x : Settings) : Readout := { format := x.format, exponent := x.exponent }

/-- Chip select at a port, active low (R170, R183, 10.8). -/
inductive ChipSelect where
  /-- Chip select is high. -/
  | high
  /-- Chip select has fallen and a transaction has begun, to be served in readout `r` (R170, R182). -/
  | low (r : Readout)
  /-- Chip select is low and frames no transaction: it fell while the port reset input was asserted, or was low when that
  input asserted or when the part started (R183; log entry 35). -/
  | ignored
  deriving DecidableEq, Repr

/-- The level of chip select outlasts a port reset or a start, and the transaction that it framed does not (R183, R184). -/
def ChipSelect.cut : ChipSelect → ChipSelect
  | .high => .high
  | .low _ => .ignored
  | .ignored => .ignored

/-- A word to be shifted out, and whether it carries a saturated COMPACT value (R176). -/
structure OutWord where
  word : Word
  saturated : Bool
  deriving DecidableEq, Repr

/-- The transaction a port is in (R170, R171). The controller holds the head word, the offset word and the pointer;
the other fields are the latched words and what the checks of R145 and R146 leave for the rest of the transaction. -/
structure Transaction where
  kind : TxKind
  head : Word
  /-- The transaction passed the tests of R171 and is open. -/
  opened : Bool
  offset : Option Word
  /-- The pointer: the word of the item that the next data word moves (R173). -/
  pointer : Nat
  /-- The data words moved so far. -/
  moved : Nat
  /-- The latched item, or the words left of the latched bin, record or copy. -/
  latch : List OutWord
  /-- A failed check: every further word reads 0000h and no further check is made (R146). -/
  zeros : Bool
  /-- The transaction has written the fault record (R146). -/
  faulted : Bool
  /-- BINS: the next bin. FREEZE: set to 1 once the copy is latched. -/
  entry : Nat
  /-- BINS: the bin latched last was the last of the account at its first word, and at its last word if that has moved, or
  an index past the last was reached: once its words have moved, every further word lies past the end (R173; log entry
  31). -/
  past : Bool
  /-- HISTORY: the sequence number sought next; absent once the walk has ended (R125). -/
  seek : Option Count
  /-- The readout format at the transaction's begin (R182). -/
  format : Format
  /-- The exponent k at the transaction's begin (R182). -/
  exponent : Nat
  /-- PENDING SET: account and watch of each latched entry (R137). -/
  keys : List (Nat × Nat)
  /-- REQUEST: the complete data words assembled so far (R177). -/
  words : List Word
  deriving DecidableEq, Repr

/-- A port controller (chapter 10) with the port's pending set (R136) and fault record (R151). -/
structure PortState where
  /-- Chip select, and the readout of the transaction that its fall began. -/
  select : ChipSelect
  /-- The transaction, from its complete head word on; absent before that and when the port is IDLE. -/
  transaction : Option Transaction
  slot : ResponseSlot
  /-- The request in flight (R177). -/
  inFlight : Option Request
  settings : Settings
  /-- The edge indications of the event status, bit positions as in the status word (10.7, R179). -/
  edges : BitVec 12
  /-- The edge indications raised since the head word of the last status read (R180). -/
  edgesSince : BitVec 12
  cold : Bool
  overrun : Bool
  /-- OVERRUN set since the head word of the last status read (R180). -/
  overrunSince : Bool
  limited : Bool
  /-- LIMITED set since the head word of the last status read (R180). -/
  limitedSince : Bool
  /-- The pending set, in ascending order of account and watch (R136). -/
  pendingSet : List PendingEntry
  fault : FaultRecord
  /-- A fault of the port was written since the head word of its last fault-record read (R152). -/
  faultSince : Bool
  /-- The port reset input is asserted (R183). -/
  resetAsserted : Bool
  /-- The last word shifted out on data out (R170). -/
  dataOut : Word
  deriving DecidableEq, Repr

/-! ### The retention controller (chapter 11) -/

/-- The retention controller (chapter 11). -/
structure Retention where
  /-- The interruption state: set for INTERRUPTED, clear for NORMAL. -/
  interrupted : Bool
  /-- The retention-valid mark (R188). -/
  valid : Bool
  /-- The interrupted mark (R187). -/
  interruptedMark : Bool
  deriving DecidableEq, Repr

/-! ### The whole part -/

/-- The state of the KA-24. `pending`, `now` and `freeDraws` are the model's own: the commands that wait, the tick of
the reference clock, and the count of free values drawn (log entries 1, 4 and 5). -/
structure State where
  pending : List Instr
  now : Nat
  freeDraws : Nat
  receivers : PerIncomer Receiver
  assemblers : PerIncomer Assembler
  waitList : List WaitEntry
  engine : Engine
  calculator : PerIncomer Calc
  posting : Posting
  time : TimeBase
  accounts : Vector (Option Account) 24
  joint : Joint
  freeze : FreezeUnit
  ports : PerPort PortState
  retention : Retention
  deriving DecidableEq, Repr

/-! ### Values at a start -/

/-- A link receiver at a power-on reset (R18). -/
def Receiver.initial : Receiver :=
  { state := .down, silence := 0, expected := none, lastMarker := none, cycle := none, badRun := 0 }

/-- A free bank that nothing has been written to since the start (R18). -/
def Bank.initial : Bank := { held := false, rows := [] }

/-- A window assembler at a power-on reset, its state from the enabled setting of the committed table (R18). -/
def Assembler.initial (enabled : Bool) : Assembler :=
  { state := if enabled then .awaiting else .disabled, bank0 := Bank.initial, bank1 := Bank.initial, filling := 0,
    nextWindow := 0 }

/-- The engine at a power-on reset (R38). -/
def Engine.initial : Engine := { flight := none, limited := false }

/-- The increment calculator's state of an incomer at a power-on reset (R62). -/
def Calc.initial : Calc := { source := none, invalidRun := 0, latest := none }

/-- The posting unit at a power-on reset (R105). -/
def Posting.initial : Posting := { waiting := [], current := none }

/-- The default table (R66). -/
def Table.default : Table :=
  { frequency := 50, enabled := { a := false, b := false }, weight := { a := 0, b := 0 },
    gain := Vector.replicate 12 32768, skew := Vector.replicate 12 0, classMap := Vector.replicate 49 15,
    inductiveRatio := Vector.replicate 8 0, capacitiveRatio := Vector.replicate 8 0, slotLength := 10 }

/-- The joint table unit at a start, with a committed table, epoch and serial counter (R78). -/
def Joint.start (t : Table) (epoch : Count) (serial : Word) : Joint :=
  { committed := t, epoch := epoch, serialCounter := serial, proposal := none,
    draftU := { table := t, baseEpoch := epoch }, draftF := { table := t, baseEpoch := epoch } }

/-- The interval controller at a start, with a second count and a band (R128). -/
def TimeBase.start (second : Count) (band : BitVec 3) : TimeBase :=
  { second := second, state := .unset, reference := none, streak := 0, lastAccepted := none, freeRun := 0,
    band := band }

/-- A freeze buffer at a power-on reset (R169). -/
def Buffer.initial : Buffer := { timer := 0, held := none }

/-- The freeze unit at a power-on reset (R169). -/
def FreezeUnit.initial : FreezeUnit := { buffer0 := Buffer.initial, buffer1 := Buffer.initial, waiting := [] }

/-- The settings after a port reset or a power-on reset (R183, R184). -/
def Settings.initial : Settings := { format := .full, exponent := 0, enables := 0 }

/-- An empty fault record (R154). -/
def FaultRecord.empty : FaultRecord := { content := none, overflow := false }

/-- A port controller at a power-on reset, RESTART raised (R184). The port reset input and chip select are outside pins and
keep their levels; bit 11 of the edges is RESTART (10.7). -/
def PortState.start (cold resetAsserted : Bool) (select : ChipSelect) : PortState :=
  { select := select, transaction := none, slot := .none, inFlight := none, settings := Settings.initial, edges := 0x800#12,
    edgesSince := 0x800#12, cold := cold, overrun := false, overrunSince := false, limited := false,
    limitedSince := false, pendingSet := [], fault := FaultRecord.empty, faultSince := false,
    resetAsserted := resetAsserted, dataOut := 0xFFFF }

/-- The retention controller at the end of a start (R187, R188). -/
def Retention.start : Retention := { interrupted := false, valid := true, interruptedMark := false }

/-- The part right after its first power-on: a cold start (R190), RESTART raised at every port with the cold flag. -/
def State.reset : State :=
  { pending := [], now := 0, freeDraws := 0,
    receivers := { a := Receiver.initial, b := Receiver.initial },
    assemblers := { a := Assembler.initial false, b := Assembler.initial false },
    waitList := [], engine := Engine.initial, calculator := { a := Calc.initial, b := Calc.initial },
    posting := Posting.initial, time := TimeBase.start 0 0, accounts := Vector.replicate 24 none,
    joint := Joint.start Table.default 0 0, freeze := FreezeUnit.initial,
    ports := { u := PortState.start true false .high, f := PortState.start true false .high,
               c := PortState.start true false .high },
    retention := Retention.start }

end Sys2Proof.Machine
end

