-- ==== Sys2Proof/Machine/Operands.lean ====
section
/-! DEFINITION. The operand forms: bit fields, the sample frame, the enumerations of 10.7, the request records, and
rounding. -/

namespace Sys2Proof.Machine

/-! ### Words and bit fields (R185) -/

/-- The lowest `k` words of `n`, most significant first (10.7). -/
def wordsOf : Nat → Nat → List Word
  | 0, _ => []
  | k + 1, n => BitVec.ofNat 16 (n / 65536 ^ k) :: wordsOf k n

/-- The number that words sent most significant first spell (10.7). -/
def natOfWords (ws : List Word) : Nat :=
  ws.foldl (fun acc w => acc * 65536 + w.toNat) 0

/-- A word with the value `v` standing at bit `shift` upward. -/
def fieldAt (shift v : Nat) : Word := BitVec.ofNat 16 (v * 2 ^ shift)

/-- A word with bit `k` set or clear. -/
def bitAt (k : Nat) (b : Bool) : Word := fieldAt k b.toNat

/-- The word whose bits, bit 15 first, are the list's; what the list lacks is clear. -/
def wordOfBits (bs : List Bool) : Word :=
  BitVec.ofNat 16 ((List.range 16).foldl (fun acc r => acc * 2 + (bs.getD r false).toNat) 0)

/-- A bit set of 40 bins in three words: bin i in word i div 16 at bit 15 − (i mod 16) (10.7). -/
def binSetWords (bs : List Bool) : List Word :=
  (List.range 3).map fun j => wordOfBits (bs.drop (16 * j))

/-- Bin `i` of a bit set of 40 bins (10.7). -/
def binSetBit (ws : List Word) (i : Nat) : Bool :=
  (ws.getD (i / 16) 0).getLsbD (15 - i % 16)

/-- The high byte of a word. -/
def hiByte (w : Word) : Byte := w.extractLsb' 8 8

/-- The low byte of a word. -/
def loByte (w : Word) : Byte := w.extractLsb' 0 8

/-- A vector's elements through `f`. -/
def mapVec {α β : Type} {n : Nat} (f : α → β) (v : Vector α n) : Vector β n :=
  ⟨⟨v.toList.map f⟩, by simp⟩

/-! ### Rounding and saturation (00_scope.md, Conventions) -/

/-- Division rounded half away from zero (00_scope.md, Rounding). -/
def roundDiv (n d : Int) : Int :=
  if d = 0 then Config.quotientByZero n
  else n.sign * d.sign * (((2 * n.natAbs + d.natAbs) / (2 * d.natAbs) : Nat) : Int)

/-- Saturation to ±`m`, with whether it acted (00_scope.md, Saturation). -/
def saturate (m x : Int) : Int × Bool :=
  if m < x then (m, true) else if x < -m then (-m, true) else (x, false)

/-- A count raised by one and held at `top`. -/
def raiseHeld (top n : Nat) : Nat := min top (n + 1)

/-! ### The sample frame (1.1, 10.7) -/

/-- The CRC-8 register after one bit: x^8 + x^2 + x + 1, most significant bit first (R1). -/
def crcShift (c : Byte) : Byte :=
  if c.getLsbD 7 then (c <<< 1) ^^^ 0x07 else c <<< 1

/-- The CRC-8 register after one byte (R1). -/
def crcByte (c b : Byte) : Byte :=
  crcShift (crcShift (crcShift (crcShift (crcShift (crcShift (crcShift (crcShift (c ^^^ b))))))))

/-- The CRC-8 of a list of bytes, from the start value 0 with no final inversion (R1). -/
def crc8 (bs : List Byte) : Byte := bs.foldl crcByte 0

/-- A sample frame's fields (1.1). -/
structure Frame where
  sequence : BitVec 4
  cycleStart : Bool
  frontEndFault : Bool
  /-- The overload flags of V1, V2, V3, I1, I2, I3, V1 in bit 5. -/
  overload : BitVec 6
  row : Row
  deriving DecidableEq, Repr

/-- The frame's 15th byte agrees with the CRC-8 of its first 14 (R1). -/
def frameGood (bytes : Vector Byte 15) : Bool :=
  crc8 (bytes.toList.take 14) == bytes[14]

/-- The fields of a frame (10.7, Sample frame). -/
def frameOf (bytes : Vector Byte 15) : Frame :=
  { sequence := bytes[0].extractLsb' 4 4, cycleStart := bytes[0].getLsbD 3, frontEndFault := bytes[0].getLsbD 2,
    overload := bytes[1].extractLsb' 0 6,
    row := #v[bytes[2] ++ bytes[3], bytes[4] ++ bytes[5], bytes[6] ++ bytes[7], bytes[8] ++ bytes[9],
      bytes[10] ++ bytes[11], bytes[12] ++ bytes[13]] }

/-- The frame is taken with an overload flag or the front-end fault flag set (R6). -/
def Frame.impaired (f : Frame) : Bool := f.overload != 0 || f.frontEndFault

/-! ### Enumerations (10.7) -/

/-- 0 U, 1 F, 2 C. -/
def portCode : Port → Nat
  | .U => 0
  | .F => 1
  | .C => 2

/-- 0 A, 1 B. -/
def incomerCode : Incomer → Nat
  | .A => 0
  | .B => 1

/-- 0 A, 1 B, 2 SITE. -/
def scopeCode : Scope → Nat
  | .A => 0
  | .B => 1
  | .site => 2

/-- The scope a request names; code 3 names none. -/
def scopeOf (c : Nat) : Option Scope :=
  if c = 0 then some .A else if c = 1 then some .B else if c = 2 then some .site else none

/-- 0 RESET, 1 RUNNING. -/
def modeCode : Mode → Nat
  | .reset => 0
  | .running => 1

/-- 0 WRAP, 1 HOLD. -/
def policyCode : Policy → Nat
  | .wrap => 0
  | .hold => 1

/-- 0 NONE, 1 READ, 2 READ_FREEZE. -/
def rightCode : Right → Nat
  | .none => 0
  | .read => 1
  | .readFreeze => 2

/-- The right a request names; code 3 names none. -/
def rightOf (c : Nat) : Option Right :=
  if c = 0 then some .none else if c = 1 then some .read else if c = 2 then some .readFreeze else none

/-- 0 MANUAL, 1 TIMER, 2 BAND_CHANGE, 3 DEFERRED. -/
def closeCauseCode : CloseCause → Nat
  | .manual => 0
  | .timer => 1
  | .bandChange => 2
  | .deferred => 3

/-- 0 MARKERS, 1 TIME_LIMIT. -/
def windowCauseCode : WindowCause → Nat
  | .markers => 0
  | .timeLimit => 1

/-- 0 TOTAL, 1 RATE. -/
def measureCode : Measure → Nat
  | .total => 0
  | .rate => 1

/-- The measure a request names. -/
def measureOf (c : Nat) : Option Measure :=
  if c = 0 then some .total else if c = 1 then some .rate else none

/-- 0 EDGE, 1 LEVEL. -/
def signallingCode : Signalling → Nat
  | .edge => 0
  | .level => 1

/-- The signalling a request names. -/
def signallingOf (c : Nat) : Option Signalling :=
  if c = 0 then some .edge else if c = 1 then some .level else none

/-- 0 RISE, 1 FALL. -/
def crossingCode : Crossing → Nat
  | .rise => 0
  | .fall => 1

/-- 0 UNSET, 1 TRACKING, 2 HOLDOVER. -/
def timeStateCode : TimeState → Nat
  | .unset => 0
  | .tracking => 1
  | .holdover => 2

/-- 0 FULL, 1 WHOLE, 2 COMPACT. -/
def formatCode : Format → Nat
  | .full => 0
  | .whole => 1
  | .compact => 2

/-- The readout format a request names; code 3 names none. -/
def formatOf (c : Nat) : Option Format :=
  if c = 0 then some .full else if c = 1 then some .whole else if c = 2 then some .compact else none

/-- 1 ABSENT_ACCOUNT, 2 ABSENT_ENTRY, 3 RIGHTS, 4 NOT_HELD, 5 WRONG_DIRECTION. -/
def faultKindCode : FaultKind → Nat
  | .absentAccount => 1
  | .absentEntry => 2
  | .rights => 3
  | .notHeld => 4
  | .wrongDirection => 5

/-- The response codes. -/
def responseCode : Response → Nat
  | .done => 1
  | .accepted => 2
  | .busy => 16
  | .notOwner => 17
  | .notPermitted => 18
  | .inUse => 19
  | .invalid => 20
  | .duplicate => 21
  | .unreleased => 22
  | .noProposal => 23
  | .stale => 24
  | .alreadyHolding => 25
  | .alreadyWaiting => 26
  | .rights => 27
  | .unknown => 28

/-! ### Request records (10.7, R177) -/

/-- Data word `k` of a request record. -/
def Request.word (r : Request) (k : Nat) : Word := r.words.getD k 0

/-- The account or slot of a request: bits 7-0 of its first word. -/
def Request.account (r : Request) : Nat := (loByte (r.word 0)).toNat

/-- Words `k` and `k + 1` as one 32-bit value. -/
def Request.pair (r : Request) (k : Nat) : Count := r.word k ++ r.word (k + 1)

/-- The data words a request needs, from its code and the words written so far; absent for a code that names no
request (R177). An OPEN_ACCOUNT record needs 8 words and one per two bin codes, rounded up, the bin count standing
in its third word; a bin count of 0 or above 40 counts as needing no code words. -/
def neededWords (code : Nat) (ws : List Word) : Option Nat :=
  if code = 1 then
    let n := ((ws.getD 2 0).extractLsb' 0 6).toNat
    some (if n ≤ Config.maxBins then 8 + (n + 1) / 2 else 8)
  else if code = 2 then some 5
  else if code = 3 ∨ code = 4 ∨ code = 5 ∨ code = 6 then some 1
  else if code = 7 then some 3
  else if code = 8 then some 11
  else if code = 9 ∨ code = 10 then some 1
  else if code = 11 ∨ code = 12 ∨ code = 13 ∨ code = 15 then some 0
  else if code = 14 then some 1
  else if code = 16 then some 2
  else if code = 17 then some 1
  else if code = 18 then some 2
  else none

/-- The parameters of an OPEN_ACCOUNT record, codes as written (10.7, code 1). -/
structure OpenFields where
  slot : Nat
  scope : Nat
  mode : Mode
  policy : Policy
  closeOnBandChange : Bool
  first : Nat
  second : Nat
  bandMask : Byte
  binCount : Nat
  period : Nat
  visibility : List Word
  codes : List Nat
  deriving DecidableEq, Repr

/-- The `n` bin codes of words `k` on, two per word, the first in bits 15-8 (10.7). -/
def Request.codes (r : Request) (k n : Nat) : List Nat :=
  (List.range n).map fun i =>
    let w := r.word (k + i / 2)
    (if i % 2 = 0 then hiByte w else loByte w).toNat

/-- The parameters of an OPEN_ACCOUNT record (10.7, code 1). -/
def openFields (r : Request) : OpenFields :=
  let w1 := r.word 1
  let w2 := r.word 2
  let n := (w2.extractLsb' 0 6).toNat
  { slot := r.account, scope := (w1.extractLsb' 14 2).toNat, mode := if w1.getLsbD 13 then .running else .reset,
    policy := if w1.getLsbD 12 then .hold else .wrap, closeOnBandChange := w1.getLsbD 11,
    first := (w1.extractLsb' 9 2).toNat, second := (w1.extractLsb' 7 2).toNat, bandMask := hiByte w2, binCount := n,
    period := (r.pair 3).toNat, visibility := [r.word 5, r.word 6, r.word 7], codes := r.codes 8 n }

/-- The fields of a SET_WATCH record, codes as written (10.7, code 8). -/
structure WatchFields where
  watch : Nat
  enabled : Bool
  measure : Nat
  signalling : Nat
  route : PerPort Bool
  bin : Nat
  high : Nat
  low : Nat
  deriving DecidableEq, Repr

/-- The fields of a SET_WATCH record (10.7, code 8). -/
def watchFields (r : Request) : WatchFields :=
  let w1 := r.word 1
  { watch := (w1.extractLsb' 12 4).toNat, enabled := w1.getLsbD 11, measure := (w1.extractLsb' 9 2).toNat,
    signalling := (w1.extractLsb' 7 2).toNat,
    route := { u := w1.getLsbD 6, f := w1.getLsbD 5, c := w1.getLsbD 4 }, bin := (r.word 2).toNat,
    high := natOfWords [r.word 3, r.word 4, r.word 5, r.word 6],
    low := natOfWords [r.word 7, r.word 8, r.word 9, r.word 10] }

end Sys2Proof.Machine
end

