-- ==== Sys2Proof/Machine/Flags.lean ====
section
/-! DEFINITION. The event status of a port: its edge and level indications, and the event line (R179, R181). -/

namespace Sys2Proof.Machine

/-- The event status indications (R179). -/
inductive Event where
  | result
  | record
  | watch
  | freezeGranted
  | reclaimed
  | proposal
  | committed
  | lapsed
  | fault
  | link
  | time
  | restart
  deriving DecidableEq, Repr

/-- The bit of an indication in the status word (10.7, PORT item 0 w0). -/
def Event.bit : Event → Nat
  | .result => 0
  | .record => 1
  | .watch => 2
  | .freezeGranted => 3
  | .reclaimed => 4
  | .proposal => 5
  | .committed => 6
  | .lapsed => 7
  | .fault => 8
  | .link => 9
  | .time => 10
  | .restart => 11

/-- The status word with the one indication set. -/
def Event.mask (e : Event) : BitVec 12 := BitVec.twoPow 12 e.bit

/-- The port's controller in the state. -/
def State.port (s : State) (p : Port) : PortState := s.ports.get p

/-- WATCH stands while the port's pending set holds an entry (R136). -/
def State.watchLevel (s : State) (p : Port) : Bool := !(s.port p).pendingSet.isEmpty

/-- PROPOSAL stands at the other of ports U and F while a proposal is pending (R70, R179). -/
def State.proposalLevel (s : State) (p : Port) : Bool :=
  match s.joint.proposal with
  | some q => p != .C && p != q.proposer
  | none => false

/-- FAULT stands while the port's fault record is full (R151). -/
def State.faultLevel (s : State) (p : Port) : Bool := (s.port p).fault.content.isSome

/-- LINK stands while an enabled incomer's receiver is in DOWN or ACQUIRING (R8, R179). -/
def State.linkLevel (s : State) : Bool :=
  (s.joint.committed.enabled.a && s.receivers.a.state != .locked)
    || (s.joint.committed.enabled.b && s.receivers.b.state != .locked)

/-- TIME stands while the time base is UNSET or HOLDOVER (R107). -/
def State.timeLevel (s : State) : Bool := s.time.state != .tracking

/-- An indication's mask when its condition holds, else nothing. -/
def Event.maskIf (e : Event) (b : Bool) : BitVec 12 := if b then e.mask else 0

/-- The level indications of a port as they stand (R179). -/
def State.levels (s : State) (p : Port) : BitVec 12 :=
  Event.watch.maskIf (s.watchLevel p) ||| Event.proposal.maskIf (s.proposalLevel p)
    ||| Event.fault.maskIf (s.faultLevel p) ||| Event.link.maskIf s.linkLevel ||| Event.time.maskIf s.timeLevel

/-- The event status of a port: edge indications as set and level indications as they stand (R179). -/
def State.eventStatus (s : State) (p : Port) : BitVec 12 := (s.port p).edges ||| s.levels p

/-- The event line is driven low while an enabled indication is set, and high otherwise (R181). -/
def State.eventLineLow (s : State) (p : Port) : Bool :=
  (s.eventStatus p &&& (s.port p).settings.enables) != 0

/-- The mask of the edge indications in the status word (R179). -/
def edgeMask : BitVec 12 :=
  Event.result.mask ||| Event.record.mask ||| Event.freezeGranted.mask ||| Event.reclaimed.mask
    ||| Event.committed.mask ||| Event.lapsed.mask ||| Event.restart.mask

/-- A port with an edge indication raised (R179); a read of the status in progress will not clear it (R180). -/
def PortState.raise (ps : PortState) (e : Event) : PortState :=
  { ps with edges := ps.edges ||| e.mask, edgesSince := ps.edgesSince ||| e.mask }

/-- A port with OVERRUN set (R173). -/
def PortState.setOverrun (ps : PortState) : PortState := { ps with overrun := true, overrunSince := true }

/-- A port with LIMITED set (R176). -/
def PortState.setLimited (ps : PortState) : PortState := { ps with limited := true, limitedSince := true }

/-- A fault written to a port's record: into an empty record, or as OVERFLOW on a full one (R151). -/
def PortState.writeFault (ps : PortState) (f : FaultInfo) : PortState :=
  { ps with
    fault := if ps.fault.content.isSome then { ps.fault with overflow := true } else { ps.fault with content := some f },
    faultSince := true }

end Sys2Proof.Machine
end

