-- ==== Sys2Proof/Machine/Ops.lean ====
section
/-! DEFINITION. The named operations over the parts of the state: reading and replacing the state of a port, an
incomer, an account or a buffer, raising indications, and answering a request. -/

namespace Sys2Proof.Machine

/-! ### Ports -/

/-- The state with port `p`'s controller replaced. -/
def State.setPort (s : State) (p : Port) (ps : PortState) : State := { s with ports := s.ports.set p ps }

/-- The state with port `p`'s controller changed by `f`. -/
def State.updPort (s : State) (p : Port) (f : PortState → PortState) : State := s.setPort p (f (s.port p))

/-- `e` is raised to port `p` (00_scope.md, Events to ports; R179). -/
def State.raise (s : State) (p : Port) (e : Event) : State := s.updPort p fun ps => ps.raise e

/-- `e` is raised to port `p` when `b` holds. -/
def State.raiseIf (s : State) (b : Bool) (p : Port) (e : Event) : State := if b then s.raise p e else s

/-- `e` is raised to all three ports. -/
def State.raiseAll (s : State) (e : Event) : State := ((s.raise .U e).raise .F e).raise .C e

/-- A fault is written to port `p`'s fault record (R151). -/
def State.writeFault (s : State) (p : Port) (f : FaultInfo) : State := s.updPort p fun ps => ps.writeFault f

/-! ### Incomers -/

/-- The link receiver of incomer `i`. -/
def State.receiver (s : State) (i : Incomer) : Receiver := s.receivers.get i

/-- The state with the link receiver of `i` replaced. -/
def State.setReceiver (s : State) (i : Incomer) (r : Receiver) : State := { s with receivers := s.receivers.set i r }

/-- The window assembler of incomer `i`. -/
def State.assembler (s : State) (i : Incomer) : Assembler := s.assemblers.get i

/-- The state with the window assembler of `i` replaced. -/
def State.setAssembler (s : State) (i : Incomer) (a : Assembler) : State :=
  { s with assemblers := s.assemblers.set i a }

/-- The increment calculator's state of incomer `i`. -/
def State.calc (s : State) (i : Incomer) : Calc := s.calculator.get i

/-- The state with the increment calculator's state of `i` replaced. -/
def State.setCalc (s : State) (i : Incomer) (c : Calc) : State := { s with calculator := s.calculator.set i c }

/-- The bank numbered `b`. -/
def Assembler.bank (a : Assembler) (b : Fin 2) : Bank := if b = 0 then a.bank0 else a.bank1

/-- The assembler with bank `b` replaced. -/
def Assembler.setBank (a : Assembler) (b : Fin 2) (k : Bank) : Assembler :=
  if b = 0 then { a with bank0 := k } else { a with bank1 := k }

/-- The other bank (R15). -/
def otherBank (b : Fin 2) : Fin 2 := if b = 0 then 1 else 0

/-! ### Accounts -/

/-- The record of account `n`; absent when the slot is FREE, and for a number that names no slot (R80). -/
def State.account (s : State) (n : Nat) : Option Account := (s.accounts[n]?).join

/-- The state with slot `n` replaced; a number that names no slot changes nothing. -/
def State.setAccount (s : State) (n : Nat) (a : Option Account) : State :=
  { s with accounts := s.accounts.setIfInBounds n a }

/-- The state with every OPEN and SUSPENDED account changed by `f`. -/
def State.mapAccounts (s : State) (f : Account → Account) : State :=
  { s with accounts := mapVec (Option.map f) s.accounts }

/-! ### Freeze buffers -/

/-- Freeze buffer `b`. -/
def FreezeUnit.buffer (u : FreezeUnit) (b : Fin 2) : Buffer := if b = 0 then u.buffer0 else u.buffer1

/-- The unit with buffer `b` replaced. -/
def FreezeUnit.setBuffer (u : FreezeUnit) (b : Fin 2) (x : Buffer) : FreezeUnit :=
  if b = 0 then { u with buffer0 := x } else { u with buffer1 := x }

/-- The holder of a buffer. -/
def Buffer.holder (x : Buffer) : Option Port := x.held.map (·.holder)

/-- The buffer that port `p` holds (R155). -/
def FreezeUnit.heldBy (u : FreezeUnit) (p : Port) : Option (Fin 2) :=
  if u.buffer0.holder = some p then some 0 else if u.buffer1.holder = some p then some 1 else none

/-- Port `p` has an entry on the waiting list (R155). -/
def FreezeUnit.isWaiting (u : FreezeUnit) (p : Port) : Bool := u.waiting.any fun w => w.port == p

/-! ### Responses (R178) -/

/-- The request in flight is answered: the slot receives its code and the response, and it is no longer in flight
(R177, R178). -/
def State.respond (s : State) (p : Port) (code : Byte) (r : Response) : State :=
  s.updPort p fun ps => { ps with slot := .answered code r, inFlight := none }

/-- The owning block takes port `p`'s request in flight when its code is `code`, and `act` says what it does and
answers (R177). Without such a request there is nothing to take and nothing changes (log entry 2). -/
def State.take (s : State) (p : Port) (code : Nat) (act : Request → Response × State) : State :=
  match (s.port p).inFlight with
  | some r =>
    if r.code.toNat = code then
      let (resp, t) := act r
      t.respond p r.code resp
    else s
  | none => s

/-! ### Draws of free values -/

/-- The free value for the word at position `k` of an item read now (log entry 5). -/
def State.absent (s : State) (k : Nat) : Word := Config.absentWord s.freeDraws k

/-- The next draw of free values is taken afresh. -/
def State.drawn (s : State) : State := { s with freeDraws := s.freeDraws + 1 }

end Sys2Proof.Machine
end

