-- ==== Sys2Proof/Machine/Phasors.lean ====
section
/-! DEFINITION. The arithmetic of the measurement path: twiddles, raw phasors, calibration, power figures and
increments (R27 to R36, R39 to R50, R54). -/

namespace Sys2Proof.Machine

/-! ### Rounded cosines (R27, R33)

Both pairs the manual uses are round(65536·cos) and round(65536·sin) of a whole number of 65536ths of a turn: the
twiddle of position k stands at 256·k (R27) and the rotation pair of order h and skew d at h·d (R33). The cosine is
formed on integers scaled by 2^64 from its series; log entry 7 says how its rounding was checked. -/

/-- π scaled by 2^64. -/
def pi64 : Nat := 57952155664616982739

/-- The sum of `n` further terms of the cosine series, scaled by 2^64: `x2` is the square of the angle, `k` the index of
the term `t`. -/
def cosSeries (x2 : Int) : Nat → Nat → Int → Int
  | 0, _, _ => 0
  | n + 1, k, t => t + cosSeries x2 n (k + 1) (-(t * x2 / (2 ^ 64 * ((2 * k + 1) * (2 * k + 2) : Nat))))

/-- round(65536·cos α) for α = r/65536 of a turn in the first quarter, r from 0 to 16384. -/
def cosQuarter (r : Nat) : Int :=
  let x : Int := ((r * pi64 / 32768 : Nat) : Int)
  (cosSeries (x * x / 2 ^ 64) 16 0 (2 ^ 64) + 2 ^ 47) / 2 ^ 48

/-- round(65536·cos α) for α = j/65536 of a turn. -/
def cosTurn (j : Nat) : Int :=
  let r := j % 65536
  if r ≤ 16384 then cosQuarter r
  else if r ≤ 32768 then -cosQuarter (32768 - r)
  else if r ≤ 49152 then -cosQuarter (r - 32768)
  else cosQuarter (65536 - r)

/-- round(65536·sin α) for α = j/65536 of a turn: the cosine a quarter of a turn earlier. -/
def sinTurn (j : Nat) : Int := cosTurn (j + 49152)

/-- The twiddle cosines c of the positions k from 0 to 255 (R27). -/
def twiddleCos : List Int := (List.range 256).map fun k => cosTurn (256 * k)

/-- The twiddle sines s of the positions k from 0 to 255 (R27). -/
def twiddleSin : List Int := (List.range 256).map fun k => sinTurn (256 * k)

/-! ### Raw phasors (R28, R29) -/

/-- A phasor (00_scope.md). -/
structure Phasor where
  re : Int
  im : Int
  deriving DecidableEq, Repr

/-- The sum of a channel's samples against one table of twiddles at order `h`, from sample `n` on (R28). -/
def accumulate (twiddles : List Int) (h : Nat) : Nat → List Int → Int
  | _, [] => 0
  | n, x :: xs => x * twiddles.getD (h * n % 256) 0 + accumulate twiddles h (n + 1) xs

/-- The raw phasor of a channel at order `h`, and whether a component saturated (R28, R29). -/
def rawPhasor (samples : List Int) (h : Nat) : Phasor × Bool :=
  let re := saturate Config.phasorMax (roundDiv (accumulate twiddleCos h 0 samples) (2 ^ 18))
  let im := saturate Config.phasorMax (roundDiv (-accumulate twiddleSin h 0 samples) (2 ^ 18))
  ({ re := re.1, im := im.1 }, re.2 || im.2)

/-! ### Calibration (R31 to R35) -/

/-- The gain step (R32). -/
def gainStep (g : Word) (z : Phasor) : Phasor × Bool :=
  let re := saturate Config.phasorMax (roundDiv (z.re * g.toNat) 32768)
  let im := saturate Config.phasorMax (roundDiv (z.im * g.toNat) 32768)
  ({ re := re.1, im := im.1 }, re.2 || im.2)

/-- The rotation of order `h` and skew `d` in 65536ths of a turn (R33). -/
def rotation (d : BitVec 12) (h : Nat) : Nat := ((h * d.toInt) % 65536).toNat

/-- The skew step at order `h` (R33, R34). -/
def skewStep (d : BitVec 12) (h : Nat) (z : Phasor) : Phasor × Bool :=
  let ca := cosTurn (rotation d h)
  let sa := sinTurn (rotation d h)
  let re := saturate Config.phasorMax (roundDiv (z.re * ca - z.im * sa) 65536)
  let im := saturate Config.phasorMax (roundDiv (z.re * sa + z.im * ca) 65536)
  ({ re := re.1, im := im.1 }, re.2 || im.2)

/-- The calibrated phasor of a raw one, and whether any step saturated (R31, R35). -/
def calibrate (g : Word) (d : BitVec 12) (h : Nat) (raw : Phasor × Bool) : Phasor × Bool :=
  let z := gainStep g raw.1
  let y := skewStep d h z.1
  (y.1, raw.2 || z.2 || y.2)

/-- The orders 1 to 50. -/
def orders : List Nat := (List.range 50).map (· + 1)

/-- The channel's place among the twelve of the joint table (R31). -/
def channelIndex (i : Incomer) (c : Nat) : Nat := 6 * incomerCode i + c

/-- The samples of channel `c` in a bank's rows. -/
def channelSamples (rows : List Row) (c : Nat) : List Int := rows.map fun row => (row.toList.getD c 0).toInt

/-- The calibrated phasors of one channel at orders 1 to 50, and whether any saturated (R28 to R35). -/
def channelPhasors (t : Table) (i : Incomer) (rows : List Row) (c : Nat) : List Phasor × Bool :=
  let g := t.gain.toList.getD (channelIndex i c) 0
  let d := t.skew.toList.getD (channelIndex i c) 0
  let samples := channelSamples rows c
  let zs := orders.map fun h => calibrate g d h (rawPhasor samples h)
  (zs.map (·.1), zs.any (·.2))

/-- The phasor set of a window: the calibrated phasors of V1, V2, V3, I1, I2, I3, and LIMITED (R35, R36). -/
def phasorSet (t : Table) (i : Incomer) (rows : List Row) : List (List Phasor) × Bool :=
  let cs := (List.range 6).map (channelPhasors t i rows)
  (cs.map (·.1), cs.any (·.2))

/-! ### Power figures (R39 to R42) -/

/-- The active power figure of a voltage and a current phasor (R39). -/
def activePower (v i : Phasor) : Int := v.re * i.re + v.im * i.im

/-- The reactive power figure of a voltage and a current phasor (R39). -/
def reactivePower (v i : Phasor) : Int := v.im * i.re - v.re * i.im

/-- A phase's figures at orders 1 to 50; the phases are numbered from 0 here (R39). -/
def phaseFigures (f : Phasor → Phasor → Int) (zs : List (List Phasor)) (p : Nat) : List Int :=
  List.zipWith f (zs.getD p []) (zs.getD (p + 3) [])

/-- The phase sums at orders 1 to 50 (R40). -/
def phaseSums (f : Phasor → Phasor → Int) (zs : List (List Phasor)) : List Int :=
  List.zipWith (· + ·) (List.zipWith (· + ·) (phaseFigures f zs 0) (phaseFigures f zs 1)) (phaseFigures f zs 2)

/-- The class sum of class `c`: the phase sums of the orders 2 to 50 that the class map assigns to it (R41). -/
def classSum (t : Table) (sums : List Int) (c : Nat) : Int :=
  (((sums.drop 1).zip t.classMap.toList).map fun x => if x.2.toNat = c then x.1 else 0).sum

/-- The harmonic total: the phase sums of all orders 2 to 50 (R42). -/
def harmonicTotal (sums : List Int) : Int := (sums.drop 1).sum

/-! ### Increments (R43 to R50) -/

/-- The window energy of a figure (R43). -/
def windowEnergy (weight : BitVec 32) (ticks : Nat) (x : Int) : Int :=
  roundDiv (x * weight.toNat * ticks) (2 ^ 48)

/-- A value when positive, else 0. -/
def positivePart (x : Int) : Nat := x.toNat

/-- The magnitude of a value when negative, else 0. -/
def negativePart (x : Int) : Nat := (-x).toNat

/-- The quadrant reactive increments FQ_Q1 to FQ_Q4 (R45). -/
def quadrants (p q : Int) : List Nat :=
  [if 0 ≤ p ∧ 0 < q then q.natAbs else 0, if p < 0 ∧ 0 < q then q.natAbs else 0,
    if p < 0 ∧ q < 0 then q.natAbs else 0, if 0 ≤ p ∧ q < 0 then q.natAbs else 0]

/-- The energy beyond the allowance that a ratio gives on the imported energy (R46, R47). -/
def excess (energy : Nat) (ratio : Word) (imported : Nat) : Nat :=
  energy - (roundDiv ((ratio.toNat * imported : Nat) : Int) 65536).toNat

/-- The 34 increments of a VALID result (R44 to R49), in order of quantity code. -/
def increments (t : Table) (i : Incomer) (band : BitVec 3) (ticks : Nat) (zs : List (List Phasor)) : List Nat :=
  let energy := windowEnergy (t.weight.get i) ticks
  let sp := phaseSums activePower zs
  let sq := phaseSums reactivePower zs
  let p := energy (sp.getD 0 0)
  let q := energy (sq.getD 0 0)
  let total := energy (harmonicTotal sp)
  [positivePart p, negativePart p] ++ quadrants p q
    ++ [excess (positivePart q) (t.inductiveRatio.toList.getD band.toNat 0) (positivePart p),
      excess (negativePart q) (t.capacitiveRatio.toList.getD band.toNat 0) (positivePart p)]
    ++ (List.range 8).map (fun c => positivePart (energy (classSum t sp c)))
    ++ (List.range 8).map (fun c => negativePart (energy (classSum t sp c)))
    ++ (List.range 8).map (fun c => (energy (classSum t sq c)).natAbs)
    ++ [positivePart total, negativePart total]

/-- The 15 raw figures of a VALID result, in the order of the RESULT item (R57, 10.7). -/
def rawFigures (t : Table) (zs : List (List Phasor)) : List Int :=
  let sq := phaseSums reactivePower zs
  ((List.range 3).flatMap fun p =>
      [(phaseFigures activePower zs p).getD 0 0, (phaseFigures reactivePower zs p).getD 0 0])
    ++ (List.range 8).map (classSum t sq) ++ [harmonicTotal sq]

/-- The increments of a SUBSTITUTED result of length `ticks` (R54). -/
def scaledIncrements (src : Source) (ticks : Nat) : List Nat :=
  src.increments.map fun x => (roundDiv ((x * ticks : Nat) : Int) src.ticks).toNat

end Sys2Proof.Machine
end

