-- ==== Sys2Proof/Machine/Transform.lean ====
section
/-! DEFINITION. The transform engine and the increment calculator (chapters 2 and 3): TRANSFORM_BEGIN,
INVALID_ENTRY_LEAVE, TRANSFORM_COMPLETION. -/

namespace Sys2Proof.Machine

/-! ### Window results -/

/-- With no record in posting, the record at the head of the posting list is taken into posting with visit position 0
(R92). -/
def Posting.takeNext (u : Posting) : Posting :=
  match u.current, u.waiting with
  | none, r :: rest => { waiting := rest, current := some { record := r, position := 0 } }
  | _, _ => u

/-- A record arrives at the posting unit: it joins the tail of the list and, when no record is in posting, is taken at
once (R92). -/
def Posting.arrive (u : Posting) (r : ResultRecord) : Posting :=
  { u with waiting := u.waiting ++ [r] }.takeNext

/-- A record is handed off: it becomes its incomer's latest result, goes to the posting unit, and RESULT is raised to
all three ports (R59, R60, R92). -/
def State.handOff (s : State) (r : ResultRecord) : State :=
  let t := s.setCalc r.incomer { s.calc r.incomer with latest := some r }
  { t with posting := t.posting.arrive r }.raiseAll .result

/-- The record of an entry with an epoch, a LIMITED flag and figures (R57). -/
def WaitEntry.result (e : WaitEntry) (epoch : Count) (limited : Bool) (figures : Figures) : ResultRecord :=
  { incomer := e.incomer, window := e.window, epoch := epoch, band := e.band, cause := e.cause, ticks := e.ticks,
    limited := limited, figures := figures }

/-- The substitution source can stand in for an invalid window of this epoch at this invalid run (R51). -/
def Source.serves (src : Source) (epoch : Count) (run : Nat) : Bool :=
  src.epoch == epoch && run ≤ Config.maxSubstituted

/-- The result of an invalid entry carrying `epoch`, at invalid run `run` (R51, R54, R55, R58). -/
def WaitEntry.invalidResult (e : WaitEntry) (source : Option Source) (epoch : Count) (run : Nat) : ResultRecord :=
  match source with
  | some src =>
    if src.serves epoch run then e.result epoch src.limited (.substituted (scaledIncrements src e.ticks))
    else e.result epoch false .gap
  | none => e.result epoch false .gap

/-- The source that a VALID result leaves (R53). -/
def WaitEntry.sourceOf (e : WaitEntry) (epoch : Count) (limited : Bool) (incs : List Nat) : Source :=
  { increments := incs, ticks := e.ticks, epoch := epoch, limited := limited }

/-! ### Taking wait-list entries (R20 to R22) -/

/-- The transform of the head entry `e` begins, with `rest` behind it on the wait list (R21). -/
def State.beginTransform (s : State) (e : WaitEntry) (rest : List WaitEntry) : State :=
  { s with
    waitList := rest
    engine := { flight := some { entry := e, snapshot := s.joint.committed, epoch := s.joint.epoch }, limited := false } }

/-- The invalid head entry `e` leaves with the committed epoch, with `rest` behind it; the invalid run rises before the
disposition is decided (R22, R51, R52). -/
def State.leaveInvalid (s : State) (e : WaitEntry) (rest : List WaitEntry) : State :=
  let c := s.calc e.incomer
  let run := raiseHeld Config.count16Max c.invalidRun
  ({ s with waitList := rest }.setCalc e.incomer { c with invalidRun := run }).handOff
    (e.invalidResult c.source s.joint.epoch run)

/-- The engine takes the entry at the head of the wait list when it is IDLE and the list is not empty (R20). -/
def State.takeEntry (s : State) : State :=
  match s.engine.flight, s.waitList with
  | none, e :: rest => if e.bank.isSome then s.beginTransform e rest else s.leaveInvalid e rest
  | _, _ => s

/-- Up to `n` takes in a row; once a transform has begun the engine takes nothing more (R20). -/
def State.takeEntries : Nat → State → State
  | 0, s => s
  | n + 1, s => takeEntries n s.takeEntry

/-- The engine takes what it can at this event: invalid entries leave one after another, and the first valid one begins
(R20; log entry 8). -/
def State.settleEngine (s : State) : State := State.takeEntries s.waitList.length s

/-! ### The meanings -/

/-- The engine is IDLE and the head of the wait list is an entry with the verdict `valid`. -/
def State.headStands (s : State) (valid : Bool) : Bool :=
  s.engine.flight.isNone && (s.waitList.head?.map (·.bank.isSome)) == some valid

/-- TRANSFORM_BEGIN (R20, R21): the head of the wait list is valid and the engine is IDLE. The event at which an entry
joins or a transform completes makes the begin at once (`State.settleEngine`); otherwise there is nothing to begin (log
entry 2). -/
def execTransformBegin (s : State) : Host.Outcome State Fault Refusal :=
  if s.headStands true then .next s.takeEntry else .next s

/-- INVALID_ENTRY_LEAVE (R20, R22): the head of the wait list is invalid and the engine is IDLE. The entry passes to the
increment calculator, and the engine takes what stands behind it at the same event. Otherwise no entry leaves (log
entry 2). -/
def execInvalidEntryLeave (s : State) : Host.Outcome State Fault Refusal :=
  if s.headStands false then .next s.takeEntry.settleEngine else .next s

/-- The bank of a wait-list entry is freed (R15, R16, R23). -/
def State.freeBank (s : State) (e : WaitEntry) : State :=
  match e.bank with
  | some b =>
    let a := s.assembler e.incomer
    s.setAssembler e.incomer (a.setBank b { a.bank b with held := false })
  | none => s

/-- The rows of a wait-list entry's bank. -/
def State.rowsOf (s : State) (e : WaitEntry) : List Row :=
  match e.bank with
  | some b => ((s.assembler e.incomer).bank b).rows
  | none => []

/-- The VALID record of the window in flight (R36, R39 to R51, R57). -/
def State.validResult (s : State) (f : Flight) : ResultRecord :=
  let zs := phasorSet f.snapshot f.entry.incomer (s.rowsOf f.entry)
  f.entry.result f.epoch zs.2
    (.valid (increments f.snapshot f.entry.incomer f.entry.band f.entry.ticks zs.1) (rawFigures f.snapshot zs.1))

/-- The increments that a record's figures carry; a GAP carries none (R57). -/
def Figures.increments : Figures → List Nat
  | .valid incs _ => incs
  | .substituted incs => incs
  | .gap => []

/-- The window in flight is complete: its phasor set is handed on and its VALID record formed, replacing the substitution
source and ending the invalid run (R51 to R53), its bank is freed, the snapshot discarded and the engine IDLE (R23). -/
def State.complete (s : State) (f : Flight) : State :=
  let r := s.validResult f
  let src := f.entry.sourceOf f.epoch r.limited r.figures.increments
  let t := (s.setCalc f.entry.incomer { s.calc f.entry.incomer with source := some src, invalidRun := 0 }).handOff r
  { t.freeBank f.entry with engine := { flight := none, limited := r.limited } }

/-- TRANSFORM_COMPLETION (R23): the completion, and with it the taking of what stands on the wait list (R20). With no
transform in flight there is no completion (log entry 2). The command is the completion whenever it comes; an idle step
makes it without delay (R24; log entry 4). -/
def execTransformCompletion (s : State) : Host.Outcome State Fault Refusal :=
  match s.engine.flight with
  | none => .next s
  | some f => .next (s.complete f).settleEngine

end Sys2Proof.Machine
end

