-- ==== Sys2Proof/Machine/Links.lean ====
section
/-! DEFINITION. Sample links and window framing (chapter 1): FRAME_ARRIVAL, SILENCE_EXPIRY, TIME_LIMIT_CLOSE. -/

namespace Sys2Proof.Machine

/-! ### The link receiver -/

/-- What a receiver passes to its window assembler (R5, R6, R9). -/
inductive Delivery where
  | nothing
  | frame (row : Row)
  /-- A marker with the verdict of the cycle it closed, absent when none was open (R5). -/
  | marker (verdict : Option Bool) (row : Row)
  deriving DecidableEq, Repr

/-- Tests 2, 3 and 4 of a good cycle, judged at a marker of tick `now` (R7). -/
def CycleTally.sound (c : CycleTally) (now : Nat) : Bool :=
  c.frames == Config.cycleFrames && !c.flawed && c.start + Config.markerSpacing ≤ now
    && now ≤ c.start + Config.cycleMaxTicks

/-- The verdict on a cycle: all four tests (R7). -/
def CycleTally.good (c : CycleTally) (now : Nat) : Bool := c.openedIn == .locked && c.sound now

/-- A frame is a sequence break (R2). -/
def Receiver.breaks (r : Receiver) (f : Frame) : Bool := (r.expected.map (· != f.sequence)).getD false

/-- A frame with good CRC is a marker (R5). -/
def Receiver.isMarker (r : Receiver) (now : Nat) (f : Frame) : Bool :=
  f.cycleStart && match r.lastMarker with
    | none => true
    | some t => t + Config.markerSpacing ≤ now

/-- The receiver's state and bad-cycle run after judging cycle `c` at a marker (R4, R8). -/
def Receiver.judged (r : Receiver) (c : CycleTally) (now : Nat) : LinkState × Nat :=
  match r.state with
  | .down => (.down, 0)
  | .acquiring => if c.sound now then (.locked, 0) else (.acquiring, 0)
  | .locked =>
    if c.good now then (.locked, 0)
    else if r.badRun + 1 < Config.badRunLimit then (.locked, r.badRun + 1)
    else (.acquiring, 0)

/-- The receiver's state and bad-cycle run after a marker (R5, R8). -/
def Receiver.afterMarker (r : Receiver) (now : Nat) : LinkState × Nat :=
  match r.cycle with
  | some c => r.judged c now
  | none => (r.state, r.badRun)

/-- The receiver woken and loaded by a frame with good CRC (R2 to R4). -/
def Receiver.loaded (r : Receiver) (f : Frame) : Receiver :=
  { r with
    state := if r.state = .down then .acquiring else r.state
    silence := Config.silenceTicks
    expected := some (f.sequence + 1) }

/-- A marker is taken: the open cycle is closed and judged, the state changes, and a new cycle opens (R5 to R8). -/
def Receiver.takeMarker (r : Receiver) (now : Nat) (f : Frame) : Receiver × Delivery :=
  let r' := r.loaded f
  let (state, run) := r'.afterMarker now
  ({ r' with
      state := state
      badRun := run
      lastMarker := some now
      cycle := some { start := now, openedIn := state, frames := 1, flawed := r.breaks f || f.impaired } },
    .marker (r.cycle.map (·.good now)) f.row)

/-- A frame that is no marker is taken: an ordinary frame of the open cycle, an early marker, a surplus frame, or a
frame of no cycle (R2, R4 to R6). -/
def Receiver.takeOrdinary (r : Receiver) (f : Frame) : Receiver × Delivery :=
  let r' := r.loaded f
  match r.cycle with
  | none => (r', .frame f.row)
  | some c =>
    if c.frames < Config.cycleFrames then
      ({ r' with
          cycle := some { c with
            frames := c.frames + 1
            flawed := c.flawed || r.breaks f || f.impaired || f.cycleStart } },
        .frame f.row)
    else ({ r' with cycle := some { c with flawed := true } }, .nothing)

/-- A frame with good CRC is taken (R1 to R8). -/
def Receiver.takeFrame (r : Receiver) (now : Nat) (f : Frame) : Receiver × Delivery :=
  if r.isMarker now f then r.takeMarker now f else r.takeOrdinary f

/-- A frame with bad CRC flaws the open cycle and does nothing else (R1). -/
def Receiver.flaw (r : Receiver) : Receiver := { r with cycle := r.cycle.map fun c => { c with flawed := true } }

/-! ### The window assembler -/

/-- The time limit a window latches from the committed table (R10). -/
def Table.timeLimit (t : Table) : Nat := if t.frequency = 60 then Config.limit60 else Config.limit50

/-- A window at its opening; one that is not aligned has its goodness mark cleared at once (R10). -/
def OpenWindow.opening (start limit : Nat) (aligned : Bool) : OpenWindow :=
  { start := start, limit := limit, fill := 0, markers := 0, aligned := aligned, good := aligned }

/-- Row `n` written to a bank. -/
def Bank.put (k : Bank) (n : Nat) (row : Row) : Bank :=
  { k with rows := if n < k.rows.length then k.rows.set n row else k.rows ++ [row] }

/-- A frame is written to the open window `w` as sample number fill count, or clears the goodness mark when the fill
count stands at 2048 (R9). -/
def Assembler.write (a : Assembler) (w : OpenWindow) (row : Row) : Assembler :=
  if w.fill < Config.bankDepth then
    { a.setBank a.filling ((a.bank a.filling).put w.fill row) with state := .opened { w with fill := w.fill + 1 } }
  else { a with state := .opened { w with good := false } }

/-- A window closing with this cause is valid (R13). -/
def OpenWindow.validAt (w : OpenWindow) (cause : WindowCause) : Bool := cause == .markers && w.aligned && w.good

/-- The stamped wait-list entry of a closing window (R14, R15). -/
def Assembler.stamp (a : Assembler) (w : OpenWindow) (i : Incomer) (cause : WindowCause) (tick : Nat)
    (band : BitVec 3) : WaitEntry :=
  { incomer := i, window := a.nextWindow, ticks := tick - w.start, cause := cause, band := band,
    bank := if w.validAt cause then some a.filling else none }

/-- The assembler after a close at `tick`: the number rises, a valid window's bank is held and filling switches, and
the next window opens at the close tick (R10 to R12, R14, R15). -/
def Assembler.afterClose (a : Assembler) (w : OpenWindow) (cause : WindowCause) (tick limit : Nat) : Assembler :=
  let a' := { a with nextWindow := a.nextWindow + 1,
                     state := .opened (OpenWindow.opening tick limit (cause == .markers)) }
  if w.validAt cause then
    { a'.setBank a.filling { a.bank a.filling with held := true } with filling := otherBank a.filling }
  else a'

/-- The open window `w` of incomer `i` closes at `tick`: it is stamped, joins the transform wait list, the next window
opens, and the engine takes what it can (R10 to R15, R20). -/
def State.closeWindow (s : State) (i : Incomer) (w : OpenWindow) (cause : WindowCause) (tick : Nat) : State :=
  let a := s.assembler i
  { s.setAssembler i (a.afterClose w cause tick s.joint.committed.timeLimit) with
    waitList := s.waitList ++ [a.stamp w i cause tick s.time.band] }.settleEngine

/-- The open window's marks after a counted marker (R11, R13). -/
def OpenWindow.count (w : OpenWindow) (verdict : Option Bool) : OpenWindow :=
  { w with markers := w.markers + 1, good := w.good && verdict == some true }

/-- A marker that arrives at the start tick of incomer `i`'s open window is its sample 0 and makes it aligned; it is not
counted (R10 to R12). -/
def State.takeOpeningMarker (s : State) (i : Incomer) (row : Row) : State :=
  match (s.assembler i).state with
  | .opened w => s.setAssembler i ((s.assembler i).write { w with aligned := true, good := true } row)
  | _ => s

/-- The assembler of incomer `i` takes what its receiver passes to it (R9 to R13). A marker below the eighth at the tick of
the time limit is taken after the close it falls at, so that the next window is aligned (R10, R12; log entry 34). -/
def State.deliver (s : State) (i : Incomer) (d : Delivery) : State :=
  let a := s.assembler i
  match d, a.state with
  | .frame row, .opened w => s.setAssembler i (a.write w row)
  | .marker _ row, .awaiting =>
    s.setAssembler i (a.write (OpenWindow.opening s.now s.joint.committed.timeLimit true) row)
  | .marker verdict row, .opened w =>
    if w.start = s.now then s.takeOpeningMarker i row
    else if Config.windowMarkers ≤ w.markers + 1 then
      (s.closeWindow i (w.count verdict) .markers s.now).takeOpeningMarker i row
    else if w.start + w.limit = s.now then (s.closeWindow i w .timeLimit s.now).takeOpeningMarker i row
    else s.setAssembler i (a.write (w.count verdict) row)
  | _, _ => s

/-! ### The meanings -/

/-- FRAME_ARRIVAL (R1 to R11, R13 to R15). While the supply-falling input has been asserted since the last power-on
reset, the frame is neither checked nor taken (R1, R17). -/
def execFrameArrival (i : Incomer) (bytes : Vector Byte 15) (s : State) : Host.Outcome State Fault Refusal :=
  if s.retention.interrupted then .next s
  else if frameGood bytes then
    let (r, d) := (s.receiver i).takeFrame s.now (frameOf bytes)
    .next ((s.setReceiver i r).deliver i d)
  else .next (s.setReceiver i (s.receiver i).flaw)

/-- The silence counter of a receiver in ACQUIRING or LOCKED has reached zero (R3). -/
def Receiver.silent (r : Receiver) : Bool := r.state != .down && r.silence == 0

/-- The receiver after the silence expiry (R3); it keeps the tick of its last marker (R5). -/
def Receiver.expire (r : Receiver) : Receiver :=
  { r with state := .down, silence := 0, expected := none, cycle := none, badRun := 0 }

/-- SILENCE_EXPIRY (R3). While the counter has not reached zero, or in DOWN, there is no expiry (log entry 2). -/
def execSilenceExpiry (i : Incomer) (s : State) : Host.Outcome State Fault Refusal :=
  if (s.receiver i).silent then .next (s.setReceiver i (s.receiver i).expire) else .next s

/-- The open window of incomer `i` whose time limit has been reached (R12). -/
def State.limitReached (s : State) (i : Incomer) : Option OpenWindow :=
  match (s.assembler i).state with
  | .opened w => if w.start + w.limit ≤ s.now then some w else none
  | _ => none

/-- TIME_LIMIT_CLOSE (R12): the window closes at the tick at which the limit is reached, so T is the limit. While no
open window has reached its limit, there is no close (log entry 2). -/
def execTimeLimitClose (i : Incomer) (s : State) : Host.Outcome State Fault Refusal :=
  match s.limitReached i with
  | some w => .next (s.closeWindow i w .timeLimit (w.start + w.limit))
  | none => .next s

end Sys2Proof.Machine
end

