-- ==== Sys2Proof/Machine/Access.lean ====
section
/-! DEFINITION. Owners, rights and the access checker (R80, R81, R135, R142 to R144, R148, R151). -/

namespace Sys2Proof.Machine

/-- The owner of slot `n` (R80). -/
def ownerOf (n : Nat) : Port := if n < 8 then .U else if n < 20 then .F else .C

/-- The first non-owner port, in the order U, F, C (10.7). -/
def firstNonOwner (owner : Port) : Port :=
  match owner with
  | .U => .F
  | .F => .U
  | .C => .U

/-- The second non-owner port, in the order U, F, C (10.7). -/
def secondNonOwner (owner : Port) : Port :=
  match owner with
  | .U => .C
  | .F => .C
  | .C => .F

/-- The right a non-owner port holds on account `n` (R81). -/
def Account.rightOf (a : Account) (n : Nat) (p : Port) : Right :=
  if p = firstNonOwner (ownerOf n) then a.rights.first else a.rights.second

/-- The visibility of bin `i` is OWNER_ONLY. An index past the bin list hides nothing. -/
def Account.hides (a : Account) (i : Nat) : Bool := ((a.bins[i]?).map (·.ownerOnly)).getD false

/-- Port `p` may read account `n`: it owns it or holds READ or READ_FREEZE (R143). -/
def Account.readableBy (a : Account) (n : Nat) (p : Port) : Bool := p == ownerOf n || a.rightOf n p != .none

/-- A port is qualified for a watch of account `n` on bin `i` (R135). -/
def Account.qualified (a : Account) (n i : Nat) (p : Port) : Bool :=
  p == ownerOf n || (a.rightOf n p != .none && !a.hides i)

/-- What an operation needs of a port on an account (R143). -/
inductive Need where
  | ownership
  | freeze
  | read
  deriving DecidableEq, Repr

/-- The right of port `p` on account `n` reaches what the operation needs (R143). -/
def Account.permits (a : Account) (n : Nat) (p : Port) (need : Need) : Bool :=
  p == ownerOf n || match need with
    | .ownership => false
    | .freeze => a.rightOf n p == .readFreeze
    | .read => a.rightOf n p != .none

/-- The directory level of a check (R143): absent when it passes, else the kind of its failure. -/
def State.directory (s : State) (n : Nat) (p : Port) (need : Need) : Option FaultKind :=
  match s.account n with
  | none => some .absentAccount
  | some a => if a.permits n p need then none else some .rights

/-- An index held in a fault record: above 255 it is held as 255 (R151). -/
def heldIndex (k : Nat) : Byte := BitVec.ofNat 8 (min k 255)

/-- An account request is judged at the directory level before any test of its own; a failure is refused with RIGHTS
and written with operation REQUEST (R148). Otherwise `act` takes it on the account's record. -/
def State.onAccount (s : State) (p : Port) (n : Nat) (need : Need) (act : Account → Response × State) :
    Response × State :=
  match s.account n with
  | none =>
    (.rights, s.writeFault p { kind := .absentAccount, request := true, account := some (heldIndex n), entry := none })
  | some a =>
    if a.permits n p need then act a
    else (.rights, s.writeFault p { kind := .rights, request := true, account := some (heldIndex n), entry := none })

end Sys2Proof.Machine
end

