-- ==== Sys2Proof/Machine/Watches.lean ====
section
/-! DEFINITION. The watch unit: measures, evaluation, routing and the pending sets (chapter 7). -/

namespace Sys2Proof.Machine

/-- A watch of a newly opened account (R129). -/
def Watch.initial : Watch :=
  { enabled := false, bin := 0, measure := .total, high := 0, low := 0, signalling := .edge,
    route := { u := false, f := false, c := false }, above := false }

/-- The crossing an evaluation of a measure finds (R134). -/
def Watch.crossing (w : Watch) (m : Nat) : Option Crossing :=
  if w.above then (if m ≤ w.low then some .fall else none)
  else if w.high ≤ m then some .rise else none

/-- The watch after a crossing (R134). -/
def Watch.cross (w : Watch) : Option Crossing → Watch
  | some .rise => { w with above := true }
  | some .fall => { w with above := false }
  | none => w

/-- What an event hands over with the account for its RATE watches: the amount just added to each bin and the
length of the result's window (R98). -/
structure Booked where
  amounts : List Nat
  ticks : Nat
  deriving DecidableEq, Repr

/-- The RATE measure (R132). -/
def rateMeasure (amount ticks : Nat) : Nat :=
  min Config.rateMax (roundDiv (amount * Config.rateFactor : Nat) ticks).toNat

/-- The measure of a watch at an evaluation, absent when the event does not evaluate it: a disabled watch is not
evaluated, and a RATE watch only at the booking of a VALID or SUBSTITUTED result (R129, R131 to R133). -/
def Account.measureOf (a : Account) (booked : Option Booked) (w : Watch) : Option Nat :=
  if w.enabled then
    match w.measure with
    | .total => (a.bins[w.bin]?).map (·.value)
    | .rate => booked.bind fun k => (k.amounts[w.bin]?).map fun d => rateMeasure d k.ticks
  else none

/-- The crossing a watch makes at an evaluation (R133, R134). -/
def Account.crossingOf (a : Account) (booked : Option Booked) (w : Watch) : Option Crossing :=
  (a.measureOf booked w).bind w.crossing

/-- A crossing on its way to the pending sets of the ports in its watch's route (R135). -/
structure Crossed where
  watch : Nat
  kind : Crossing
  route : PerPort Bool
  deriving DecidableEq, Repr

/-- The account is handed to the watch unit: its watches after the evaluation, and the crossings (R133 to R135). -/
def Account.evaluate (a : Account) (booked : Option Booked) : Account × List Crossed :=
  ({ a with watches := mapVec (fun w => w.cross (a.crossingOf booked w)) a.watches },
    (a.watches.toList.zipIdx).filterMap fun wi =>
      (a.crossingOf booked wi.1).map fun k => { watch := wi.2, kind := k, route := wi.1.route })

/-! ### Pending sets (R136, R137) -/

/-- A new entry of a pending set (R136). -/
def PendingEntry.new (account watch : Nat) (k : Crossing) : PendingEntry :=
  { account := account, watch := watch, first := k, latest := k, count := 1, sinceCount := 1, sinceFirst := k }

/-- A crossing recorded in an existing entry (R136). -/
def PendingEntry.record (e : PendingEntry) (k : Crossing) : PendingEntry :=
  { e with
    first := if e.count = 0 then k else e.first
    latest := k
    count := raiseHeld Config.crossingMax e.count
    sinceCount := raiseHeld Config.crossingMax e.sinceCount
    sinceFirst := if e.sinceCount = 0 then k else e.sinceFirst }

/-- The entry's place in the order of a pending set: by account, then by watch (R136). -/
def PendingEntry.key (e : PendingEntry) : Nat := e.account * 4 + e.watch

/-- The entry is the one of this account and watch. -/
def PendingEntry.isOf (e : PendingEntry) (account watch : Nat) : Bool := e.account == account && e.watch == watch

/-- A crossing enters a pending set (R135, R136). -/
def recordCrossing (account watch : Nat) (k : Crossing) : List PendingEntry → List PendingEntry
  | [] => [PendingEntry.new account watch k]
  | e :: es =>
    if e.isOf account watch then e.record k :: es
    else if account * 4 + watch < e.key then PendingEntry.new account watch k :: e :: es
    else e :: recordCrossing account watch k es

/-- A crossing of account `n` enters the pending set of port `p` when the port is in the route (R135). -/
def State.routeTo (s : State) (n : Nat) (x : Crossed) (p : Port) : State :=
  if x.route.get p then
    s.updPort p fun ps => { ps with pendingSet := recordCrossing n x.watch x.kind ps.pendingSet }
  else s

/-- The crossings of account `n` enter the pending sets of the ports they are routed to, in order (R135). -/
def State.route (s : State) (n : Nat) : List Crossed → State
  | [] => s
  | x :: xs => (((s.routeTo n x .U).routeTo n x .F).routeTo n x .C).route n xs

/-- Port `p`'s entries that satisfy `f` leave its pending set. -/
def State.dropPending (s : State) (p : Port) (f : PendingEntry → Bool) : State :=
  s.updPort p fun ps => { ps with pendingSet := ps.pendingSet.filter fun e => !f e }

/-- The entries that satisfy `f` leave every port's pending set. -/
def State.dropPendingAll (s : State) (f : PendingEntry → Bool) : State :=
  ((s.dropPending .U f).dropPending .F f).dropPending .C f

/-- An account's record and the crossings found at its event take effect (chapter 7, introduction). -/
def State.setEvaluated (s : State) (n : Nat) (r : Account × List Crossed) : State :=
  (s.setAccount n (some r.1)).route n r.2

end Sys2Proof.Machine
end

