-- ==== Sys2Proof/Machine/Closes.lean ====
section
/-! DEFINITION. Headers and the close operation: close begin, the new interval, the ring (R82, R109, R115 to R123,
R186). -/

namespace Sys2Proof.Machine

/-- What a close begin or an opening takes from the interval controller and the retention controller. -/
structure Moment where
  second : Count
  /-- The time base is TRACKING. -/
  tracking : Bool
  /-- The interruption state is INTERRUPTED. -/
  interrupted : Bool
  deriving DecidableEq, Repr

/-- The moment of the state. -/
def State.moment (s : State) : Moment :=
  { second := s.time.second, tracking := s.time.state == .tracking, interrupted := s.retention.interrupted }

/-- The per-incomer part of a fresh header (R86, R117). -/
def Tally.zero : Tally := { windows := none, valid := 0, substituted := 0, gap := 0, skipped := 0 }

/-- A fresh header (R86, R109, R117): TIME_SUSPECT as given, FREE_RUNNING when the time base is not TRACKING, and the
interruption count raised by one while the state is INTERRUPTED (R186). -/
def Header.fresh (m : Moment) (sequence : Count) (timeSuspect : Bool) : Header :=
  { sequence := sequence, startSecond := m.second, epochs := none, tally := { a := Tally.zero, b := Tally.zero },
    merged := 0, interruptions := if m.interrupted then 1 else 0, limited := false, pinnedAny := false,
    cleared := false, freeRunning := !m.tracking, timeSet := false, timeSuspect := timeSuspect,
    epochChanged := false }

/-- A bin zeroed with its pinned mark clear (R83). -/
def Bin.zeroed (b : Bin) : Bin := { b with value := 0, pinned := false }

/-- The newest record of the ring is WRITING (R122). -/
def Ring.writing (r : Ring) : Bool := (r.records.getLast?.map (·.writing)).getD false

/-- The ring holds 32 records. -/
def Ring.full (r : Ring) : Bool := Config.ringDepth ≤ r.records.length

/-- The physical slot of the oldest record or, in an empty ring, the one the last release left (R122). -/
def Ring.oldestSlot (r : Ring) : Nat := (r.records.head?.map (·.slot)).getD r.emptySlot

/-- The physical slot a new record takes: the one after the newest or, in an empty ring, the oldest slot (R122). -/
def Ring.nextSlot (r : Ring) : Nat :=
  (r.records.getLast?.map fun h => (h.slot + 1) % Config.ringDepth).getD r.emptySlot

/-- The ring with a new newest record; a full ring first loses its oldest, which a close begin reaches in WRAP policy
alone (R116). -/
def Ring.join (r : Ring) (h : HistoryRecord) : Ring :=
  { r with records := (if r.full then r.records.drop 1 else r.records) ++ [h] }

/-- The history record that a close carried out now writes (R116, R121). -/
def Account.recordOf (a : Account) (m : Moment) (cause : CloseCause) : HistoryRecord :=
  { writing := true, slot := a.ring.nextSlot, cause := cause, endSecond := m.second, header := a.header,
    values := a.bins.map (·.value) }

/-- The account at a close carried out at its begin, before its watches are evaluated (R116, R117). -/
def Account.carryOut (a : Account) (m : Moment) (cause : CloseCause) : Account :=
  { a with
    ring := a.ring.join (a.recordOf m cause)
    header := Header.fresh m (a.header.sequence + 1) a.header.timeSuspect
    bins := if a.mode = .reset then a.bins.map Bin.zeroed else a.bins
    lastBand := none }

/-- The merged-closure count raised by one (R115). -/
def Account.merge (a : Account) : Account :=
  { a with header := { a.header with merged := raiseHeld Config.count16Max a.header.merged } }

/-- A close begin with a cause (R115): held pending while a record is WRITING, deferred in a full HOLD ring, and
otherwise carried out; a close carried out in RESET mode hands the account to the watch unit (R117, R133). -/
def Account.closeBegin (a : Account) (m : Moment) (cause : CloseCause) : Account × List Crossed :=
  if a.ring.writing then
    match a.pendingClose with
    | none => ({ a with pendingClose := some cause }, [])
    | some _ => (a.merge, [])
  else if a.policy = .hold ∧ a.ring.full then ({ a.merge with deferredClose := true }, [])
  else if a.mode = .reset then (a.carryOut m cause).evaluate none
  else (a.carryOut m cause, [])

/-- The pending close of the account begins: the mark clears and a close with the held cause begins (R119). -/
def Account.pendingBegin (a : Account) (m : Moment) : Account × List Crossed :=
  match a.pendingClose with
  | some cause => { a with pendingClose := none }.closeBegin m cause
  | none => (a, [])

/-- The deferred close of the account begins: the mark clears and a close with cause DEFERRED begins (R120). -/
def Account.deferredBegin (a : Account) (m : Moment) : Account × List Crossed :=
  if a.deferredClose then { a with deferredClose := false }.closeBegin m .deferred else (a, [])

/-- The WRITING record becomes STORED (R118). -/
def Ring.store (r : Ring) : Ring :=
  { r with records := r.records.map fun h => { h with writing := false } }

/-- Record `h` is released by the sequence number `q`: it is STORED, and `q` less its sequence, modulo 2^32, is below
2^31 (R123). -/
def HistoryRecord.releasedBy (h : HistoryRecord) (q : Count) : Bool :=
  !h.writing && (q - h.header.sequence).toNat < 2 ^ 31

/-- The ring after RELEASE_RECORDS with `q`: the released records are gone, and the others keep their slots (R123). -/
def Ring.release (r : Ring) (q : Count) : Ring :=
  let kept := r.records.filter fun h => !h.releasedBy q
  { records := kept, emptySlot := if kept.isEmpty then r.nextSlot else r.emptySlot }

end Sys2Proof.Machine
end

