-- ==== Sys2Proof/Machine/Posts.lean ====
section
/-! DEFINITION. The posting unit (5.5): POSTING_TAKE and POSTING. -/

namespace Sys2Proof.Machine

/-- The record's increment for a quantity code; a GAP carries none (R96). -/
def Figures.incrementOf (f : Figures) (code : Nat) : Option Nat :=
  match f with
  | .gap => none
  | g => some (g.increments.getD code 0)

/-- The scope takes the incomer's results (R81, R93). -/
def Scope.takes (sc : Scope) (i : Incomer) : Bool :=
  match sc, i with
  | .A, .A => true
  | .B, .B => true
  | .site, _ => true
  | _, _ => false

/-- The posting of the record applies to the account (R93); a FREE slot has no record here. -/
def Account.applies (a : Account) (r : ResultRecord) : Bool :=
  a.scope.takes r.incomer && a.bandMask.getLsbD r.band.toNat

/-- The band-change check of a posting finds another band (R94). -/
def Account.bandChanged (a : Account) (r : ResultRecord) : Bool :=
  a.closeOnBandChange && (a.lastBand.map (· != r.band)).getD false

/-- A bin after an increment is added to it (R83). -/
def Bin.add (b : Bin) (x : Nat) : Bin :=
  if Config.binMax < b.value + x then { b with value := Config.binMax, pinned := true }
  else { b with value := b.value + x }

/-- The amount that a bin receives of an increment (R132). -/
def Bin.received (b : Bin) (x : Nat) : Nat := (b.add x).value - b.value

/-- A bin after the booking of a record (R96). -/
def Bin.book (b : Bin) (f : Figures) : Bin :=
  match f.incrementOf b.code with
  | some x => b.add x
  | none => b

/-- The window numbers of a tally after a result of window `n` (R95, R97). -/
def Tally.note (t : Tally) (n : Count) : Tally :=
  { t with windows := some ((t.windows.map (·.1)).getD n, n) }

/-- The tally after a result is counted as SKIPPED (R95). -/
def Tally.skip (t : Tally) (n : Count) : Tally :=
  { t.note n with skipped := raiseHeld Config.count32Max t.skipped }

/-- The tally after a result is counted in its disposition (R97). -/
def Tally.book (t : Tally) (r : ResultRecord) : Tally :=
  match r.figures with
  | .valid _ _ => { t.note r.window with valid := raiseHeld Config.count32Max t.valid }
  | .substituted _ => { t.note r.window with substituted := raiseHeld Config.count32Max t.substituted }
  | .gap => { t.note r.window with gap := raiseHeld Config.count32Max t.gap }

/-- The header after a booking; `pinned` says whether a bin carries its pinned mark after it (R97). -/
def Header.book (h : Header) (r : ResultRecord) (pinned : Bool) : Header :=
  { h with
    tally := h.tally.set r.incomer ((h.tally.get r.incomer).book r)
    epochs := some ((h.epochs.map (·.1)).getD r.epoch, r.epoch)
    epochChanged := h.epochChanged || (h.epochs.map (·.1 != r.epoch)).getD false
    limited := h.limited || r.limited
    pinnedAny := h.pinnedAny || pinned }

/-- The header after a result is counted as SKIPPED (R95). -/
def Header.skip (h : Header) (r : ResultRecord) : Header :=
  { h with tally := h.tally.set r.incomer ((h.tally.get r.incomer).skip r.window) }

/-- What a booking hands to the watch unit: the amount each bin received, or nothing for a GAP (R98, R133). -/
def Account.booked (a : Account) (r : ResultRecord) : Option Booked :=
  match r.figures with
  | .gap => none
  | f => some { amounts := a.bins.map fun b => b.received ((f.incrementOf b.code).getD 0), ticks := r.ticks }

/-- The account after the booking of a record, before its watches are evaluated (R96 to R98). -/
def Account.book (a : Account) (r : ResultRecord) : Account :=
  let bins := a.bins.map fun b => b.book r.figures
  { a with bins := bins, header := a.header.book r (bins.any (·.pinned)), lastBand := some r.band }

/-- The second to fifth steps of an applying posting: SKIPPED in SUSPENDED, else booked and evaluated (R95 to R98). -/
def Account.count (a : Account) (r : ResultRecord) : Account × List Crossed :=
  if a.suspended then ({ a with header := a.header.skip r }, [])
  else (a.book r).evaluate (a.booked r)

/-- The posting of a record to an account: the band-change check, then the counting (R93 to R98). -/
def Account.post (a : Account) (m : Moment) (r : ResultRecord) : Account × List Crossed :=
  if !a.applies r then (a, [])
  else if a.bandChanged r then
    let x := a.closeBegin m .bandChange
    let y := x.1.count r
    (y.1, x.2 ++ y.2)
  else a.count r

/-- The posting of a record to slot `n` (R92, R93). -/
def State.postTo (s : State) (n : Nat) (r : ResultRecord) : State :=
  match s.account n with
  | none => s
  | some a => s.setEvaluated n (a.post s.moment r)

/-- POSTING_TAKE (R92): the record at the head of the posting list is taken into posting when no record is in posting. The
event at which a record arrives or the last one leaves makes the take at once (`Posting.takeNext`); otherwise nothing is
taken (log entry 2). -/
def execPostingTake (s : State) : Host.Outcome State Fault Refusal :=
  .next { s with posting := s.posting.takeNext }

/-- The record in posting after a visit: the position rises, and after account 23 the record leaves (R92). -/
def Visit.after (v : Visit) : Option Visit :=
  if v.position < 23 then some { v with position := v.position + 1 } else none

/-- POSTING (R92 to R98): the visit of the account at the visit position; when the record leaves, the next one is taken.
With no record in posting there is no visit (log entry 2). -/
def execPosting (s : State) : Host.Outcome State Fault Refusal :=
  match s.posting.current with
  | none => .next s
  | some v =>
    let t := s.postTo v.position v.record
    .next { t with posting := { t.posting with current := v.after }.takeNext }

end Sys2Proof.Machine
end

