-- ==== Sys2Proof/Machine/FreezeOps.lean ====
section
/-! DEFINITION. The freeze unit's operations: copies, grants, passing, reloads and reclaims (chapter 9). -/

namespace Sys2Proof.Machine

/-- The slot length of the committed table (R162). -/
def State.slotLength (s : State) : Nat := s.joint.committed.slotLength.toNat

/-- The copy of account `n` as it stands (R156, R158), with the next draw of free values for its absent fields. -/
def State.copyOf (s : State) (n : Nat) : Copy :=
  { account := n, second := s.time.second,
    body := (s.account n).map fun a => { suspended := a.suspended, header := a.header, bins := a.bins },
    draw := s.freeDraws }

/-- The freeze unit replaced. -/
def State.setFreeze (s : State) (u : FreezeUnit) : State := { s with freeze := u }

/-- Buffer `b` passes to port `p` with a copy of account `n`: the copy is taken with a draw of free values of its own,
the timer loaded, and FREEZE_GRANTED raised (R157, R158, R161, R162). -/
def State.grant (s : State) (b : Fin 2) (p : Port) (n : Nat) : State :=
  (s.drawn.setFreeze (s.freeze.setBuffer b
    { timer := s.slotLength, held := some { holder := p, copy := s.copyOf n, reclaimDue := false } })).raise
    p .freezeGranted

/-- A HELD buffer's timer reloads and its reclaim-due mark clears; a FREE buffer keeps its timer (R162). -/
def Buffer.reload (x : Buffer) (length : Nat) : Buffer :=
  match x.held with
  | some h => { timer := length, held := some { h with reclaimDue := false } }
  | none => x

/-- The waiting list has become empty: both HELD buffers reload (R162). -/
def State.reload (s : State) : State :=
  s.setFreeze { s.freeze with buffer0 := s.freeze.buffer0.reload s.slotLength,
                              buffer1 := s.freeze.buffer1.reload s.slotLength }

/-- The reload when the waiting list is empty (R162). -/
def State.reloadIfEmpty (s : State) : State := if s.freeze.waiting.isEmpty then s.reload else s

/-- Buffer `b` is freed with its copy discarded; with a port waiting it passes to the head of the list, else it is
FREE and its timer stands (R160, R161, R162). -/
def State.freeBuffer (s : State) (b : Fin 2) : State :=
  match s.freeze.waiting with
  | [] => s.setFreeze (s.freeze.setBuffer b { s.freeze.buffer b with held := none })
  | w :: rest => ((s.setFreeze { s.freeze with waiting := rest }).grant b w.port w.account).reloadIfEmpty

/-- Port `p`'s entry leaves the waiting list; when the list becomes empty the timers reload (R159, R160, R162). -/
def State.leaveWaiting (s : State) (p : Port) : State :=
  (s.setFreeze { s.freeze with waiting := s.freeze.waiting.filter fun w => w.port != p }).reloadIfEmpty

/-- Port `p` gives up what it has of the freeze unit: its buffer, its entry, or nothing (R160, R168). -/
def State.giveUp (s : State) (p : Port) : State :=
  match s.freeze.heldBy p with
  | some b => s.freeBuffer b
  | none => if s.freeze.isWaiting p then s.leaveWaiting p else s

/-- Buffer `b` is reclaimed from its holder: RECLAIMED is raised and the buffer passes (R164). -/
def State.reclaim (s : State) (b : Fin 2) (holder : Port) : State := (s.raise holder .reclaimed).freeBuffer b

/-- Port `p` has a read transaction of the FREEZE space open (R165, R171). -/
def State.freezeReadOpen (s : State) (p : Port) : Bool :=
  ((s.port p).transaction.map fun t => t.kind == .freeze && t.opened).getD false

/-- Buffer `b` counts at a second tick: it is HELD, its timer above 0 and its reclaim-due mark clear (R163). -/
def Buffer.counted (x : Buffer) : Buffer :=
  match x.held with
  | some h => if h.reclaimDue then x else { x with timer := x.timer - 1 }
  | none => x

/-- The holder of buffer `b` when its timer has reached 0 with a port waiting and its mark clear (R164). -/
def State.expired (s : State) (b : Fin 2) : Option Holding :=
  match (s.freeze.buffer b).held with
  | some h =>
    if (s.freeze.buffer b).timer = 0 ∧ h.reclaimDue = false ∧ s.freeze.waiting.isEmpty = false then some h else none
  | none => none

/-- The expiry of buffer `b`'s slot timer, if it has expired: deferred while its holder has a FREEZE read open, else
reclaimed (R164, R165). -/
def State.expireSlot (s : State) (b : Fin 2) : State :=
  match s.expired b with
  | some h =>
    if s.freezeReadOpen h.holder then
      s.setFreeze (s.freeze.setBuffer b { s.freeze.buffer b with held := some { h with reclaimDue := true } })
    else s.reclaim b h.holder
  | none => s

/-- The freeze unit takes a second tick: with a port waiting, each eligible timer falls by one, and the timers that
reach 0 expire, buffer 0 first (R163, R164). -/
def State.countSlots (s : State) : State :=
  if s.freeze.waiting.isEmpty then s
  else ((s.setFreeze { s.freeze with buffer0 := s.freeze.buffer0.counted,
                                     buffer1 := s.freeze.buffer1.counted }).expireSlot 0).expireSlot 1

/-- The reclaim that buffer `b`'s mark owes is settled at the end of its holder's FREEZE read: the mark clears, and the
reclaim is made if a port still waits (R165). -/
def State.settleReclaim (s : State) (b : Fin 2) : State :=
  match (s.freeze.buffer b).held with
  | some h =>
    if h.reclaimDue ∧ s.freezeReadOpen h.holder = false then
      let t := s.setFreeze (s.freeze.setBuffer b { s.freeze.buffer b with held := some { h with reclaimDue := false } })
      if s.freeze.waiting.isEmpty then t else t.reclaim b h.holder
    else s
  | none => s

/-- Port `p`'s FREEZE read has ended: the reclaim of its buffer, if one is owed, is settled (R165). -/
def State.endFreezeRead (s : State) (p : Port) : State :=
  match s.freeze.heldBy p with
  | some b => s.settleReclaim b
  | none => s

/-- SLOT_TIMER_EXPIRY (R164): the expiry of buffer `b`'s slot timer. The second tick that brings a timer to 0 makes the
expiry at the same event (`State.countSlots`); while no timer stands expired there is none (log entry 2). -/
def execSlotTimerExpiry (b : Fin 2) (s : State) : Host.Outcome State Fault Refusal := .next (s.expireSlot b)

/-- DEFERRED_RECLAIM (R165): a deferred reclaim of buffer `b` whose holder has no FREEZE read open. The end of the read
makes it at the same event (`State.endFreezeRead`); while none is owed nothing changes (log entry 2). -/
def execDeferredReclaim (b : Fin 2) (s : State) : Host.Outcome State Fault Refusal := .next (s.settleReclaim b)

end Sys2Proof.Machine
end

