-- ==== Sys2Proof/Machine/JointUnit.lean ====
section
/-! DEFINITION. The joint table unit (chapter 4): the commit and the lapse, and the meanings of LAPSE, LOAD_DRAFT,
PROPOSE, CONCUR and WITHDRAW. -/

namespace Sys2Proof.Machine

/-- The state with the joint table unit replaced. -/
def State.setJoint (s : State) (j : Joint) : State := { s with joint := j }

/-- The draft of port U or port F; port C has none (R67). -/
def Joint.draft (j : Joint) : Port → Option Draft
  | .U => some j.draftU
  | .F => some j.draftF
  | .C => none

/-- The unit with port `p`'s draft replaced; port C has none. -/
def Joint.setDraft (j : Joint) (p : Port) (d : Draft) : Joint :=
  match p with
  | .U => { j with draftU := d }
  | .F => { j with draftF := d }
  | .C => j

/-- The committed table loaded into port `p`'s draft, with the committed epoch as base epoch (R68, R77). -/
def Joint.loadDraft (j : Joint) (p : Port) : Joint := j.setDraft p { table := j.committed, baseEpoch := j.epoch }

/-- A draft passes the checks of PROPOSE: frequency 50 or 60, every class 0 to 7 or 15, slot length at least 1 (R70).
These are the ranges of R63 that a field's width does not already hold it to. -/
def Table.valid (t : Table) : Bool :=
  (t.frequency == 50 || t.frequency == 60) && t.classMap.toList.all (fun c => c.toNat < 8 || c == 15)
    && t.slotLength != 0

/-! ### The commit (R74, R75) -/

/-- The wait-list entries of incomer `i` leave, and the banks of the valid ones are freed (R16). -/
def State.dropEntries (s : State) (i : Incomer) : State :=
  let gone := s.waitList.filter fun e => e.incomer == i
  { gone.foldl State.freeBank s with waitList := s.waitList.filter fun e => e.incomer != i }

/-- Incomer `i` is enabled: its assembler goes to AWAITING_MARKER and its numbering restarts (R16). -/
def State.enableIncomer (s : State) (i : Incomer) : State :=
  s.setAssembler i { s.assembler i with state := .awaiting, nextWindow := 0 }

/-- Incomer `i` is disabled: its open window and its waiting entries are discarded (R16). -/
def State.disableIncomer (s : State) (i : Incomer) : State :=
  (s.setAssembler i { s.assembler i with state := .disabled }).dropEntries i

/-- The invalid run of incomer `i` becomes 0 (R52). -/
def State.clearRun (s : State) (i : Incomer) : State := s.setCalc i { s.calc i with invalidRun := 0 }

/-- A commit reaches incomer `i`: an enabled setting that changes takes effect and restarts the invalid run (R16, R52,
R75). -/
def State.commitIncomer (s : State) (i : Incomer) (was now : Bool) : State :=
  if was = now then s else (if now then s.enableIncomer i else s.disableIncomer i).clearRun i

/-- Both substitution sources become absent (R53). -/
def State.clearSources (s : State) : State :=
  { s with calculator := s.calculator.map fun c => { c with source := none } }

/-- The table commits: every field is replaced, the epoch rises by one and the proposal ends (R74). -/
def Joint.commit (j : Joint) (t : Table) : Joint :=
  { j with committed := t, epoch := j.epoch + 1, proposal := none }

/-- The commit of table `t` (R74, R75). -/
def State.commit (s : State) (t : Table) : State :=
  let was := s.joint.committed.enabled
  ((((s.setJoint (s.joint.commit t)).commitIncomer .A was.a t.enabled.a).commitIncomer
    .B was.b t.enabled.b).clearSources).raiseAll .committed

/-! ### The lapse (R71, R72) -/

/-- The pending proposal ends; PROPOSAL clears with it as a level indication (R72, R74, R76). -/
def State.endProposal (s : State) : State := s.setJoint { s.joint with proposal := none }

/-- The lapse of the pending proposal (R72). -/
def State.lapseNow (s : State) : State := (s.endProposal.raise .U .lapsed).raise .F .lapsed

/-- The lapse timer of a pending proposal takes a second tick and lapses at 0 (R71, R72). -/
def State.countLapse (s : State) : State :=
  match s.joint.proposal with
  | some q =>
    if q.remaining ≤ 1 then s.lapseNow
    else s.setJoint { s.joint with proposal := some { q with remaining := q.remaining - 1 } }
  | none => s

/-! ### The meanings -/

/-- LAPSE (R72): the lapse timer of the pending proposal stands at 0. The second tick that brings it there makes the
lapse at the same event (`State.countLapse`); while none stands at 0 nothing lapses (log entry 2). -/
def execLapse (s : State) : Host.Outcome State Fault Refusal :=
  match s.joint.proposal with
  | some q => if q.remaining = 0 then .next s.lapseNow else .next s
  | none => .next s

/-- LOAD_DRAFT (R68, R79). -/
def execLoadDraft (p : Port) (s : State) : Host.Outcome State Fault Refusal :=
  .next (s.take p 12 fun _ =>
    if p = .C then (.notPermitted, s) else (.done, s.setJoint (s.joint.loadDraft p)))

/-- The new proposal of port `p` with the table of its draft: the serial counter plus one, and 300 seconds (R69,
R70). -/
def Joint.propose (j : Joint) (p : Port) (t : Table) : Joint :=
  { j with
    serialCounter := j.serialCounter + 1
    proposal := some { table := t, proposer := p, serial := j.serialCounter + 1, remaining := Config.lapseSeconds } }

/-- PROPOSE (R70): refused to port C, then BUSY while a proposal is pending, then INVALID for values out of range. -/
def execPropose (p : Port) (s : State) : Host.Outcome State Fault Refusal :=
  .next (s.take p 13 fun _ =>
    match s.joint.draft p with
    | none => (.notPermitted, s)
    | some d =>
      if s.joint.proposal.isSome then (.busy, s)
      else if d.table.valid then (.done, s.setJoint (s.joint.propose p d.table))
      else (.invalid, s))

/-- CONCUR (R73, R74): refused to port C, then NO_PROPOSAL, then to the proposer, then STALE; else the table
commits. -/
def execConcur (p : Port) (s : State) : Host.Outcome State Fault Refusal :=
  .next (s.take p 14 fun r =>
    if p = .C then (.notPermitted, s)
    else match s.joint.proposal with
      | none => (.noProposal, s)
      | some q =>
        if p = q.proposer then (.notPermitted, s)
        else if r.word 0 = q.serial then (.done, s.commit q.table)
        else (.stale, s))

/-- WITHDRAW (R76): refused to port C, then NO_PROPOSAL, then to a port that is not the proposer. -/
def execWithdraw (p : Port) (s : State) : Host.Outcome State Fault Refusal :=
  .next (s.take p 15 fun _ =>
    if p = .C then (.notPermitted, s)
    else match s.joint.proposal with
      | none => (.noProposal, s)
      | some q => if p = q.proposer then (.done, s.endProposal) else (.notPermitted, s))

end Sys2Proof.Machine
end

