-- ==== Sys2Proof/Machine/Timekeeping.lean ====
section
/-! DEFINITION. The interval controller (chapter 6): the second pulse, the second ticks, the timer closes, the
record-written event and the held closes; SET_TIME and SELECT_BAND. -/

namespace Sys2Proof.Machine

/-- The state with the interval controller replaced. -/
def State.setTime (s : State) (t : TimeBase) : State := { s with time := t }

/-! ### Second ticks (R108, R113) -/

/-- The account after a second tick that brings the count to `second`: a periodic account whose period divides the
count is timer-due (R113). -/
def Account.markTimer (second : Count) (a : Account) : Account :=
  if 0 < a.period ∧ second.toNat % a.period = 0 then { a with timerDue := true } else a

/-- The second count rises by one and the free-run counter restarts (R107, R108). -/
def TimeBase.advance (t : TimeBase) : TimeBase := { t with second := t.second + 1, freeRun := 0 }

/-- A second tick (R107, R108): the count rises and is offered to the lapse timer (R71), the slot timers (R163) and the
timer closes (R113). -/
def State.secondTick (s : State) : State :=
  let t := ((s.setTime s.time.advance).countLapse).countSlots
  t.mapAccounts (Account.markTimer t.time.second)

/-! ### The second pulse (R106, R107) -/

/-- The class of a second pulse (R106). -/
inductive PulseClass where
  | reference
  | early
  | accepted
  deriving DecidableEq, Repr

/-- The class of a pulse that arrives at tick `now` (R106). -/
def TimeBase.classify (t : TimeBase) (now : Nat) : PulseClass :=
  match t.reference with
  | none => .reference
  | some r =>
    if now < r + Config.pulseMin then .early
    else if now ≤ r + Config.pulseMax then .accepted
    else .reference

/-- A reference pulse (R106). -/
def TimeBase.refer (t : TimeBase) (now : Nat) : TimeBase := { t with reference := some now, streak := 0 }

/-- An accepted pulse (R106): the streak rises, held at 2. -/
def TimeBase.accept (t : TimeBase) (now : Nat) : TimeBase :=
  { t with reference := some now, lastAccepted := some now, streak := min 2 (t.streak + 1) }

/-- SECOND_PULSE (R106, R107). An accepted pulse is a second tick in TRACKING, and in UNSET and HOLDOVER when it raises
the acceptance streak to 2, which brings the state to TRACKING. -/
def execSecondPulse (s : State) : Host.Outcome State Fault Refusal :=
  match s.time.classify s.now with
  | .early => .next s
  | .reference => .next (s.setTime (s.time.refer s.now))
  | .accepted =>
    let t := s.time.accept s.now
    if t.state = .tracking ∨ t.streak = 2 then .next (s.setTime { t with state := .tracking }).secondTick
    else .next (s.setTime t)

/-- TRACKING has gone 15,000,000 ticks without an accepted pulse (R107). -/
def State.holdoverDue (s : State) : Bool :=
  s.time.state == .tracking && (s.time.lastAccepted.map fun t => decide (t + Config.holdoverTicks ≤ s.now)).getD false

/-- The header carries FREE_RUNNING (R109). -/
def Account.setFreeRunning (a : Account) : Account := { a with header := { a.header with freeRunning := true } }

/-- HOLDOVER_ENTRY (R107, R109): the time base goes to HOLDOVER with a second tick at the same event, and every open
header gets FREE_RUNNING. Before the limit is reached there is no entry (log entry 2). -/
def execHoldoverEntry (s : State) : Host.Outcome State Fault Refusal :=
  if s.holdoverDue then
    .next ((s.setTime { s.time with state := .holdover, streak := 0 }).mapAccounts Account.setFreeRunning).secondTick
  else .next s

/-- The free-run counter has reached 10,000,000 in UNSET or HOLDOVER (R107). -/
def State.freeRunDue (s : State) : Bool := s.time.state != .tracking && decide (Config.freeRunTicks ≤ s.time.freeRun)

/-- FREE_RUN_TICK (R107): a second tick. In TRACKING, and before the counter is full, there is none (log entry 2). -/
def execFreeRunTick (s : State) : Host.Outcome State Fault Refusal :=
  if s.freeRunDue then .next s.secondTick else .next s

/-! ### Timer closes, record-written events and held closes (R113, R118 to R120) -/

/-- TIMER_CLOSE_BEGIN (R113): the timer-due account takes a close begin with cause TIMER, which clears the mark. An
account that is FREE or not marked takes none (log entry 2). -/
def execTimerCloseBegin (n : Fin 24) (s : State) : Host.Outcome State Fault Refusal :=
  match s.account n with
  | none => .next s
  | some a =>
    if a.timerDue then .next (s.setEvaluated n ({ a with timerDue := false }.closeBegin s.moment .timer)) else .next s

/-- RECORD is raised to port `p` for account `n` when it may read the account (R118). -/
def State.raiseRecord (s : State) (n : Nat) (a : Account) (p : Port) : State :=
  s.raiseIf (a.readableBy n p) p .record

/-- RECORD is raised to the owner and to the non-owner ports that hold READ or READ_FREEZE (R118). -/
def State.raiseRecords (s : State) (n : Nat) (a : Account) : State :=
  ((s.raiseRecord n a .U).raiseRecord n a .F).raiseRecord n a .C

/-- RECORD_WRITTEN (R118, R119): the WRITING record becomes STORED, RECORD is raised, and a pending close begins at the
same event. An account without a WRITING record has none to complete (log entry 2). -/
def execRecordWritten (n : Fin 24) (s : State) : Host.Outcome State Fault Refusal :=
  match s.account n with
  | none => .next s
  | some a =>
    if a.ring.writing then
      let stored := { a with ring := a.ring.store }
      .next ((s.raiseRecords n a).setEvaluated n (stored.pendingBegin s.moment))
    else .next s

/-- PENDING_CLOSE_BEGIN (R119): a pending close whose WRITING record has been written. The record-written event begins
it at the same event (`execRecordWritten`); while a record is WRITING or no close is pending, none begins (log
entry 2). -/
def execPendingCloseBegin (n : Fin 24) (s : State) : Host.Outcome State Fault Refusal :=
  match s.account n with
  | none => .next s
  | some a =>
    if a.pendingClose.isSome && !a.ring.writing then .next (s.setEvaluated n (a.pendingBegin s.moment)) else .next s

/-- DEFERRED_CLOSE_BEGIN (R120): a deferred close whose ring has room again. The release that makes room begins it at
the same event (`execReleaseRecords`); while the ring is full or a record is WRITING, or no close is deferred, none
begins (log entry 2). -/
def execDeferredCloseBegin (n : Fin 24) (s : State) : Host.Outcome State Fault Refusal :=
  match s.account n with
  | none => .next s
  | some a =>
    if a.deferredClose && !a.ring.writing && !a.ring.full then .next (s.setEvaluated n (a.deferredBegin s.moment))
    else .next s

/-! ### SET_TIME and SELECT_BAND (R110, R111) -/

/-- The header gets TIME_SET and loses TIME_SUSPECT (R110). -/
def Account.markTimeSet (a : Account) : Account :=
  { a with header := { a.header with timeSet := true, timeSuspect := false } }

/-- SET_TIME (R110): taken from port U alone. -/
def execSetTime (p : Port) (s : State) : Host.Outcome State Fault Refusal :=
  .next (s.take p 16 fun r =>
    if p = .U then (.done, (s.setTime { s.time with second := r.pair 0 }).mapAccounts Account.markTimeSet)
    else (.notPermitted, s))

/-- SELECT_BAND (R111): taken from port U alone, and INVALID for a band above 7. -/
def execSelectBand (p : Port) (s : State) : Host.Outcome State Fault Refusal :=
  .next (s.take p 17 fun r =>
    if p ≠ .U then (.notPermitted, s)
    else if (r.word 0).toNat < 8 then
      (.done, s.setTime { s.time with band := (r.word 0).extractLsb' 0 3 })
    else (.invalid, s))

end Sys2Proof.Machine
end

