-- ==== Sys2Proof/Machine/Power.lean ====
section
/-! DEFINITION. Port reset, supply interruption and the starts (R17, R77, R168, R183, R184, R186 to R190): PORT_RESET,
PORT_RESET_DEASSERTION, SUPPLY_FALLING, RETENTION_LOSS, POWER_ON_RESET. -/

namespace Sys2Proof.Machine

/-! ### Port reset -/

/-- The port controller after a port reset, with its pending set and fault record emptied (R141, R154, R183). -/
def PortState.reset (ps : PortState) : PortState :=
  { ps with
    select := ps.select.cut, transaction := none, slot := .none, inFlight := none, settings := Settings.initial, edges := 0, edgesSince := 0,
    cold := false, overrun := false, overrunSince := false, limited := false, limitedSince := false, pendingSet := [],
    fault := FaultRecord.empty, faultSince := false, resetAsserted := true, dataOut := 0xFFFF }

/-- The pending proposal is withdrawn when port `p` made it (R77). -/
def State.withdrawOwn (s : State) (p : Port) : State :=
  match s.joint.proposal with
  | some q => if q.proposer = p then s.endProposal else s
  | none => s

/-- PORT_RESET (R77, R141, R154, R168, R183): the reset input of port `p` asserts. -/
def execPortReset (p : Port) (s : State) : Host.Outcome State Fault Refusal :=
  let t := (s.giveUp p).withdrawOwn p
  .next ((t.setJoint (t.joint.loadDraft p)).updPort p PortState.reset)

/-- PORT_RESET_DEASSERTION (R183): the port takes transactions again from the first fall of chip select after it. -/
def execPortResetDeassertion (p : Port) (s : State) : Host.Outcome State Fault Refusal :=
  .next (s.updPort p fun ps => { ps with resetAsserted := false })

/-! ### Supply interruption -/

/-- The open header's interruption count rises by one, held at 65535 (R186, R189). -/
def Account.interrupt (a : Account) : Account :=
  { a with header := { a.header with interruptions := raiseHeld Config.count16Max a.header.interruptions } }

/-- The assembler at the assertion of supply-falling: an open window is discarded (R17). -/
def Assembler.interrupt (a : Assembler) : Assembler :=
  match a.state with
  | .opened _ => { a with state := .awaiting }
  | _ => a

/-- SUPPLY_FALLING (R17, R186). A later assertion while the state is INTERRUPTED has no effect. -/
def execSupplyFalling (s : State) : Host.Outcome State Fault Refusal :=
  if s.retention.interrupted then .next s
  else
    .next ({ s with
      retention := { s.retention with interrupted := true, interruptedMark := true }
      assemblers := s.assemblers.map Assembler.interrupt }.mapAccounts Account.interrupt)

/-- RETENTION_LOSS (R188): the retention supply falls below its hold level and the retention-valid mark clears. -/
def execRetentionLoss (s : State) : Host.Outcome State Fault Refusal :=
  .next { s with retention := { s.retention with valid := false } }

/-! ### Power-on reset -/

/-- An account at a warm start (R105, R128, R189): its header gets TIME_SUSPECT and FREE_RUNNING, its interruption count
rises when no assertion raised it, and its timer-due mark clears. -/
def Account.warm (interruptedMark : Bool) (a : Account) : Account :=
  let b := if interruptedMark then a else a.interrupt
  { b with header := { b.header with timeSuspect := true, freeRunning := true }, timerDue := false }

/-- The part at a power-on reset with what its start keeps or sets of the retention domain (R18, R38, R62, R78, R105,
R128, R141, R154, R169, R184, R187). -/
def State.start (s : State) (cold : Bool) (accounts : Vector (Option Account) 24) (t : Table) (epoch : Count)
    (serial : Word) (second : Count) (band : BitVec 3) : State :=
  { pending := s.pending, now := s.now, freeDraws := s.freeDraws,
    receivers := { a := Receiver.initial, b := Receiver.initial },
    assemblers := { a := Assembler.initial t.enabled.a, b := Assembler.initial t.enabled.b },
    waitList := [], engine := Engine.initial, calculator := { a := Calc.initial, b := Calc.initial },
    posting := Posting.initial, time := TimeBase.start second band, accounts := accounts,
    joint := Joint.start t epoch serial, freeze := FreezeUnit.initial,
    ports := s.ports.map fun ps => PortState.start cold ps.resetAsserted ps.select.cut, retention := Retention.start }

/-- A warm start (R189): the retained contents are kept. A record that was WRITING stays WRITING until its
record-written event, which completes it from its snapshot. -/
def State.warmStart (s : State) : State :=
  s.start false (mapVec (Option.map (Account.warm s.retention.interruptedMark)) s.accounts) s.joint.committed
    s.joint.epoch s.joint.serialCounter s.time.second s.time.band

/-- A cold start (R66, R128, R190): nothing of the retention domain is used. -/
def State.coldStart (s : State) : State := s.start true (Vector.replicate 24 none) Table.default 0 0 0 0

/-- POWER_ON_RESET (R188): the retention-valid mark decides between a warm and a cold start. -/
def execPowerOnReset (s : State) : Host.Outcome State Fault Refusal :=
  if s.retention.valid then .next s.warmStart else .next s.coldStart

end Sys2Proof.Machine
end

