-- ==== Sys2Proof/Machine/Clock.lean ====
section
/-! DEFINITION. What the part does when no command waits: it takes an event that is due, or one tick of the reference
clock passes (R3, R12, R20, R24, R92, R107, R113, R118, R177). That no tick passes while an event is due, so that
every delay for which a rule gives a bound is 0 ticks, is a DESIGN CHOICE (log entry 4). -/

namespace Sys2Proof.Machine

/-- A receiver over one tick: in ACQUIRING and LOCKED the silence counter counts down (R3). -/
def Receiver.tick (r : Receiver) : Receiver := if r.state = .down then r else { r with silence := r.silence - 1 }

/-- The free-run counter over one tick; it holds at 10,000,000 (R107). -/
def TimeBase.tick (t : TimeBase) : TimeBase :=
  { t with freeRun := if t.freeRun < Config.freeRunTicks then t.freeRun + 1 else t.freeRun }

/-- One tick of the reference clock passes. -/
def State.tick (s : State) : State :=
  { s with now := s.now + 1, receivers := s.receivers.map Receiver.tick, time := s.time.tick }

/-- The command when its condition holds. -/
def dueIf (b : Bool) (c : Instr) : Option Instr := if b then some c else none

/-- The engine's next event: a valid head entry begins its transform, an invalid one leaves (R20), and a transform in
flight completes. R24 leaves a transform 0 to 250,000 ticks; the model completes it at the tick of its begin in every run
(DESIGN CHOICE, log entry 4). -/
def State.engineDue (s : State) : Option Instr :=
  dueIf (s.headStands true) .transformBegin <|> dueIf (s.headStands false) .invalidEntryLeave
    <|> dueIf s.engine.flight.isSome .transformCompletion

/-- The posting unit's next event: the take of the next record, or the visit of the next account. R92 leaves a posting up
to 100,000 ticks; the model takes none (DESIGN CHOICE, log entry 4). -/
def State.postingDue (s : State) : Option Instr :=
  dueIf (s.posting.current.isNone && !s.posting.waiting.isEmpty) .postingTake
    <|> dueIf s.posting.current.isSome .posting

/-- The account has a WRITING record to be written (R118). -/
def State.recordDue (s : State) (n : Fin 24) : Bool := ((s.account n).map fun a => a.ring.writing).getD false

/-- The account is marked timer-due (R113). -/
def State.timerDue (s : State) (n : Fin 24) : Bool := ((s.account n).map fun a => a.timerDue).getD false

/-- The lowest account for which `f` holds. -/
def firstAccount (f : Fin 24 → Bool) : Option (Fin 24) := (List.finRange 24).find? f

/-- The accounts' next event: a record is written (R118), or a marked account takes its timer close (R113). The rules leave
them up to 50,000 and 100,000 ticks; the model takes none (DESIGN CHOICE, log entry 4). -/
def State.accountDue (s : State) : Option Instr :=
  (firstAccount s.recordDue).map .recordWritten <|> (firstAccount s.timerDue).map .timerCloseBegin

/-- The command at which the owning block takes port `p`'s request of a code (10.7, R177). -/
def requestCommand (p : Port) (code : Nat) : Option Instr :=
  if code = 1 then some (.openAccount p)
  else if code = 2 then some (.setRights p)
  else if code = 3 then some (.suspend p)
  else if code = 4 then some (.resume p)
  else if code = 5 then some (.clearBins p)
  else if code = 6 then some (.closeInterval p)
  else if code = 7 then some (.releaseRecords p)
  else if code = 8 then some (.setWatch p)
  else if code = 9 then some (.teardown p)
  else if code = 10 then some (.freeze p)
  else if code = 11 then some (.unfreeze p)
  else if code = 12 then some (.loadDraft p)
  else if code = 13 then some (.propose p)
  else if code = 14 then some (.concur p)
  else if code = 15 then some (.withdraw p)
  else if code = 16 then some (.setTime p)
  else if code = 17 then some (.selectBand p)
  else if code = 18 then some (.setPort p)
  else none

/-- The taking of port `p`'s request in flight (R177), at the tick at which it is passed on (DESIGN CHOICE, log entry 4). -/
def State.requestDue (s : State) (p : Port) : Option Instr :=
  (s.port p).inFlight.bind fun r => requestCommand p r.code.toNat

/-- The first event that is due: those the rules put at this very tick (R3, R12, R20, R92, R107), then those they ask for
within a time (R24, R92, R113, R118, R177). Where the rules leave an order or a delay open, the order is this list's and
the delay is 0 ticks (DESIGN CHOICE, log entry 4). -/
def State.due (s : State) : Option Instr :=
  dueIf (s.receiver .A).silent (.silenceExpiry .A)
    <|> dueIf (s.receiver .B).silent (.silenceExpiry .B)
    <|> dueIf (s.limitReached .A).isSome (.timeLimitClose .A)
    <|> dueIf (s.limitReached .B).isSome (.timeLimitClose .B)
    <|> dueIf s.holdoverDue .holdoverEntry
    <|> dueIf s.freeRunDue .freeRunTick
    <|> s.engineDue
    <|> s.postingDue
    <|> s.accountDue
    <|> s.requestDue .U
    <|> s.requestDue .F
    <|> s.requestDue .C

end Sys2Proof.Machine
end

