-- ==== Sys2Proof/Machine/Requests.lean ====
section
/-! DEFINITION. The account requests, the freeze requests and SET_PORT (R85 to R91, R114, R123, R130, R138, R139, R157,
R160, R182). -/

namespace Sys2Proof.Machine

/-! ### OPEN_ACCOUNT (R85, R86) -/

/-- The parameters fail step 3 of R85. -/
def OpenFields.invalid (f : OpenFields) : Bool :=
  f.binCount == 0 || Config.maxBins < f.binCount || f.codes.any (fun c => Config.maxCode < c) || f.bandMask == 0
    || Config.maxPeriod < f.period || (scopeOf f.scope).isNone || (rightOf f.first).isNone
    || (rightOf f.second).isNone

/-- The bin list repeats a code (R85 step 4). -/
def OpenFields.repeats (f : OpenFields) : Bool := !decide f.codes.Nodup

/-- The account as opened (R86). The scope and rights are those the tests of R85 have passed. -/
def OpenFields.account (f : OpenFields) (m : Moment) : Account :=
  { suspended := false, scope := (scopeOf f.scope).getD .A,
    bins := f.codes.zipIdx.map fun ci =>
      { code := ci.1, ownerOnly := binSetBit f.visibility ci.2, value := 0, pinned := false },
    bandMask := f.bandMask, period := f.period, closeOnBandChange := f.closeOnBandChange, mode := f.mode,
    policy := f.policy, rights := { first := (rightOf f.first).getD .none, second := (rightOf f.second).getD .none },
    header := Header.fresh m 0 false, watches := Vector.replicate 4 Watch.initial, lastBand := none,
    pendingClose := none, deferredClose := false, ring := { records := [], emptySlot := 0 }, timerDue := false }

/-- The slot is in the sender's range (R80, R85 step 1). -/
def ownsSlot (p : Port) (n : Nat) : Bool := decide (n < 24) && ownerOf n == p

/-- OPEN_ACCOUNT (R85, R86). -/
def execOpenAccount (p : Port) (s : State) : Host.Outcome State Fault Refusal :=
  .next (s.take p 1 fun r =>
    let f := openFields r
    if !ownsSlot p f.slot then (.notOwner, s)
    else if (s.account f.slot).isSome then (.inUse, s)
    else if f.invalid then (.invalid, s)
    else if f.repeats then (.duplicate, s)
    else (.done, s.setAccount f.slot (some (f.account s.moment))))

/-! ### SET_RIGHTS (R87, R138) -/

/-- The account with new rights and the visibility of a bit set (R87). -/
def Account.withRights (a : Account) (rights : Rights) (visibility : List Word) : Account :=
  { a with
    rights := rights
    bins := a.bins.zipIdx.map fun bi => { bi.1 with ownerOnly := binSetBit visibility bi.2 } }

/-- A route kept to the ports still qualified (R138). -/
def Account.trimRoute (a : Account) (n : Nat) (w : Watch) : Watch :=
  { w with
    route := { u := w.route.u && a.qualified n w.bin .U, f := w.route.f && a.qualified n w.bin .F,
               c := w.route.c && a.qualified n w.bin .C } }

/-- The routes of the account's watches trimmed (R138). -/
def Account.trim (a : Account) (n : Nat) : Account := { a with watches := mapVec (a.trimRoute n) a.watches }

/-- Port `p` has lost its place for the watch of an entry of account `n` (R138). -/
def Account.unqualifiedEntry (a : Account) (n : Nat) (p : Port) (e : PendingEntry) : Bool :=
  e.account == n && match a.watches[e.watch]? with
    | some w => !a.qualified n w.bin p
    | none => false

/-- The entries of ports that are no longer qualified leave (R138). -/
def State.dropUnqualified (s : State) (n : Nat) (a : Account) : State :=
  ((s.dropPending .U (a.unqualifiedEntry n .U)).dropPending .F (a.unqualifiedEntry n .F)).dropPending .C
    (a.unqualifiedEntry n .C)

/-- SET_RIGHTS (R87, R138). -/
def execSetRights (p : Port) (s : State) : Host.Outcome State Fault Refusal :=
  .next (s.take p 2 fun r => s.onAccount p r.account .ownership fun a =>
    match rightOf ((r.word 1).extractLsb' 9 2).toNat, rightOf ((r.word 1).extractLsb' 7 2).toNat with
    | some x, some y =>
      let b := (a.withRights { first := x, second := y } [r.word 2, r.word 3, r.word 4]).trim r.account
      (.done, (s.setAccount r.account (some b)).dropUnqualified r.account b)
    | _, _ => (.invalid, s))

/-! ### SUSPEND, RESUME, CLEAR_BINS, CLOSE_INTERVAL -/

/-- SUSPEND (R88). -/
def execSuspend (p : Port) (s : State) : Host.Outcome State Fault Refusal :=
  .next (s.take p 3 fun r => s.onAccount p r.account .ownership fun a =>
    (.done, s.setAccount r.account (some { a with suspended := true })))

/-- RESUME (R88). -/
def execResume (p : Port) (s : State) : Host.Outcome State Fault Refusal :=
  .next (s.take p 4 fun r => s.onAccount p r.account .ownership fun a =>
    (.done, s.setAccount r.account (some { a with suspended := false })))

/-- The header after CLEAR_BINS (R89). -/
def Header.clear (h : Header) : Header :=
  { h with tally := { a := Tally.zero, b := Tally.zero }, limited := false, pinnedAny := false, cleared := true }

/-- The account after CLEAR_BINS, before its watches are evaluated (R89). -/
def Account.clearBins (a : Account) : Account := { a with bins := a.bins.map Bin.zeroed, header := a.header.clear }

/-- CLEAR_BINS (R89, R133). -/
def execClearBins (p : Port) (s : State) : Host.Outcome State Fault Refusal :=
  .next (s.take p 5 fun r => s.onAccount p r.account .ownership fun a =>
    (.done, s.setEvaluated r.account (a.clearBins.evaluate none)))

/-- CLOSE_INTERVAL (R114, R115): DONE in every case. -/
def execCloseInterval (p : Port) (s : State) : Host.Outcome State Fault Refusal :=
  .next (s.take p 6 fun r => s.onAccount p r.account .ownership fun a =>
    (.done, s.setEvaluated r.account (a.closeBegin s.moment .manual)))

/-! ### RELEASE_RECORDS (R120, R123) -/

/-- The account after its released records have left; when one or more left and a close is deferred, the deferred close
begins at the same event (R120, R123). -/
def Account.release (a : Account) (m : Moment) (q : Count) : Account × List Crossed :=
  let b := { a with ring := a.ring.release q }
  if b.ring.records.length < a.ring.records.length then b.deferredBegin m else (b, [])

/-- RELEASE_RECORDS (R123). -/
def execReleaseRecords (p : Port) (s : State) : Host.Outcome State Fault Refusal :=
  .next (s.take p 7 fun r => s.onAccount p r.account .ownership fun a =>
    (.done, s.setEvaluated r.account (a.release s.moment (r.pair 1))))

/-! ### SET_WATCH (R130) -/

/-- Every port of the route is qualified (R130, R135). -/
def Account.routeQualified (a : Account) (n i : Nat) (route : PerPort Bool) : Bool :=
  (!route.u || a.qualified n i .U) && (!route.f || a.qualified n i .F) && (!route.c || a.qualified n i .C)

/-- The watch a SET_WATCH record gives, BELOW; absent when a check of R130 fails. -/
def WatchFields.watchFor (f : WatchFields) (n : Nat) (a : Account) : Option Watch :=
  match measureOf f.measure, signallingOf f.signalling with
  | some m, some g =>
    if f.watch < 4 ∧ f.bin < a.bins.length ∧ f.low ≤ f.high ∧ a.routeQualified n f.bin f.route then
      some { enabled := f.enabled, bin := f.bin, measure := m, high := f.high, low := f.low, signalling := g,
             route := f.route, above := false }
    else none
  | _, _ => none

/-- SET_WATCH (R130). -/
def execSetWatch (p : Port) (s : State) : Host.Outcome State Fault Refusal :=
  .next (s.take p 8 fun r => s.onAccount p r.account .ownership fun a =>
    let f := watchFields r
    match f.watchFor r.account a with
    | some w =>
      (.done, (s.setAccount r.account (some { a with watches := a.watches.setIfInBounds f.watch w })).dropPendingAll
        fun e => e.isOf r.account f.watch)
    | none => (.invalid, s))

/-! ### TEARDOWN (R90, R139) -/

/-- TEARDOWN (R90, R139): BUSY while a record is WRITING, then UNRELEASED while the ring holds a record. -/
def execTeardown (p : Port) (s : State) : Host.Outcome State Fault Refusal :=
  .next (s.take p 9 fun r => s.onAccount p r.account .ownership fun a =>
    if a.ring.writing then (.busy, s)
    else if a.ring.records ≠ [] then (.unreleased, s)
    else (.done, (s.setAccount r.account none).dropPendingAll fun e => e.account == r.account))

/-! ### FREEZE and UNFREEZE (R157, R160) -/

/-- The lowest-numbered FREE buffer (R157). -/
def FreezeUnit.lowestFree (u : FreezeUnit) : Option (Fin 2) :=
  if u.buffer0.held.isNone then some 0 else if u.buffer1.held.isNone then some 1 else none

/-- FREEZE (R157): judged for READ_FREEZE, then ALREADY_HOLDING, then ALREADY_WAITING; granted, or queued with
ACCEPTED. -/
def execFreeze (p : Port) (s : State) : Host.Outcome State Fault Refusal :=
  .next (s.take p 10 fun r => s.onAccount p r.account .freeze fun _ =>
    if (s.freeze.heldBy p).isSome then (.alreadyHolding, s)
    else if s.freeze.isWaiting p then (.alreadyWaiting, s)
    else match s.freeze.lowestFree with
      | some b => (.done, s.grant b p r.account)
      | none =>
        (.accepted, s.setFreeze { s.freeze with
          waiting := s.freeze.waiting ++ [{ port := p, account := r.account }] }))

/-- UNFREEZE (R160): DONE in every case. -/
def execUnfreeze (p : Port) (s : State) : Host.Outcome State Fault Refusal :=
  .next (s.take p 11 fun _ => (.done, s.giveUp p))

/-! ### SET_PORT (R182) -/

/-- SET_PORT (R182): INVALID for an unknown format or an exponent above 6. -/
def execSetPort (p : Port) (s : State) : Host.Outcome State Fault Refusal :=
  .next (s.take p 18 fun r =>
    let k := ((r.word 0).extractLsb' 2 3).toNat
    match formatOf ((r.word 0).extractLsb' 0 2).toNat with
    | some f =>
      if k ≤ Config.maxExponent then
        (.done, s.updPort p fun ps =>
          { ps with settings := { format := f, exponent := k, enables := (r.word 1).extractLsb' 0 12 } })
      else (.invalid, s)
    | none => (.invalid, s))

end Sys2Proof.Machine
end

