-- ==== Sys2Proof/Decode.lean ====
section
/-! DEFINITION. Reading a head word (10.7, R170 to R172), and the decoder the host asks for over the table's bits. -/

namespace Sys2Proof

/-- The eight spaces of a port (R172). -/
inductive Space where
  | port
  | account
  | bins
  | history
  | freeze
  | result
  | joint
  | request
  deriving DecidableEq, Repr

/-- The fields of a head word (10.7): 15-12 framing pattern, 11 direction, 10-8 space, 7-0 item. -/
structure HeadWord where
  framing : BitVec 4
  /-- Set for WRITE, clear for READ. -/
  write : Bool
  space : Space
  item : Byte
  deriving DecidableEq, Repr

/-- The space a head word's three space bits name (R172). -/
def spaceOfBits (b : BitVec 3) : Space :=
  if b = 0 then .port else if b = 1 then .account else if b = 2 then .bins else if b = 3 then .history
  else if b = 4 then .freeze else if b = 5 then .result else if b = 6 then .joint else .request

/-- The space bits of a space (R172). -/
def bitsOfSpace : Space → BitVec 3
  | .port => 0
  | .account => 1
  | .bins => 2
  | .history => 3
  | .freeze => 4
  | .result => 5
  | .joint => 6
  | .request => 7

/-- The head word's fields (10.7). -/
def decodeHead (w : Word) : HeadWord :=
  { framing := w.extractLsb' 12 4, write := w.getLsbD 11, space := spaceOfBits (w.extractLsb' 8 3),
    item := w.extractLsb' 0 8 }

/-- The head word of given fields (10.7). -/
def encodeHead (h : HeadWord) : Word :=
  h.framing ++ BitVec.ofBool h.write ++ bitsOfSpace h.space ++ h.item

/-- A head word with the good framing pattern 1011 (R170). -/
def headWord (write : Bool) (space : Space) (item : Byte) : Word :=
  encodeHead { framing := 0b1011, write := write, space := space, item := item }

/-- Does the space hold the item at this port? (R171 step 1, R172, R150; item 1 of the JOINT space is absent at
port C, R67.) -/
def itemExists (p : Port) (space : Space) (item : Byte) : Bool :=
  match space with
  | .port => item.toNat < 5
  | .account => true
  | .bins => true
  | .history => true
  | .freeze => item == 0
  | .result => item.toNat < 2
  | .joint => item.toNat < 3 && !(item == 1 && p == .C)
  | .request => true

/-- Does the item allow the direction? (R171 step 2, R172.) -/
def directionAllowed (write : Bool) (space : Space) (item : Byte) : Bool :=
  match space with
  | .request => write
  | .joint => !write || item == 1
  | _ => !write

/-- The table row that the transaction of head word `w` at port `p` belongs to: framing first (R170), then the item,
then the direction (R171). -/
def rowOf (p : Port) (w : Word) : TxKind :=
  let h := decodeHead w
  if h.framing ≠ 0b1011 then .badFraming
  else if !itemExists p h.space h.item then .absentItem
  else if !directionAllowed h.write h.space h.item then .wrongDirection
  else match h.space with
    | .port => if h.item = 1 then .pendingSet else if h.item = 2 then .faultRecord else .openItem
    | .account => .account
    | .bins => .bins
    | .history => .history
    | .freeze => .freeze
    | .result => .openItem
    | .joint => if h.write then .draft else .openItem
    | .request => .request

/-- The command that a word spells by the table's bits. spec/opcode_table.json gives no row any bits (its rows are
operations and events, not encodings), so no word spells one. -/
def decodeTableWord (_nbits _w : Nat) : Option Instr := none

end Sys2Proof
end

