-- ==== Sys2Proof/Machine/Layouts.lean ====
section
/-! DEFINITION. The layouts of the items of the eight spaces (10.7, R175, R176), word by word, and the writing of a
draft (R67). -/

namespace Sys2Proof.Machine

/-! ### Bin values in a readout format (R175, R176) -/

/-- The words of a bin value in a format; the top bit carries the pinned mark where it is given (R175). A saturated
COMPACT value is marked at its first word (R176; log entry 10). -/
def binWords (f : Format) (k : Nat) (pinned : Bool) (value : Nat) : List OutWord :=
  let plain (w : Word) : OutWord := { word := w, saturated := false }
  match f with
  | .full => (wordsOf 4 (pinned.toNat * 2 ^ 63 + value)).map plain
  | .whole => (wordsOf 3 (pinned.toNat * 2 ^ 47 + value / 65536)).map plain
  | .compact =>
    let q := value / (65536 * 10 ^ k)
    let ws := wordsOf 2 (pinned.toNat * 2 ^ 31 + min q Config.compactMax)
    ws.zipIdx.map fun wi => { word := wi.1, saturated := wi.2 == 0 && decide (Config.compactMax < q) }

/-- Words per bin of a format (R175). -/
def binWidth : Format → Nat
  | .full => 4
  | .whole => 3
  | .compact => 2

/-- A bin withheld: its format's width of 0000h words (R146, R147). -/
def maskedWords (f : Format) : List OutWord := List.replicate (binWidth f) { word := 0, saturated := false }

/-- Words that carry no bin value. -/
def plainWords (ws : List Word) : List OutWord := ws.map fun w => { word := w, saturated := false }

/-! ### The interval header block (10.7) -/

/-- The two words of a 32-bit value. -/
def countWords (c : Count) : List Word := [c.extractLsb' 16 16, c.extractLsb' 0 16]

/-- The words of a tally; absent window numbers read free values (log entry 5). -/
def tallyWords (free : Nat → Word) (at_ : Nat) (t : Tally) : List Word :=
  (match t.windows with
    | some (x, y) => countWords x ++ countWords y
    | none => [free at_, free (at_ + 1), free (at_ + 2), free (at_ + 3)])
    ++ wordsOf 2 t.valid ++ wordsOf 2 t.substituted ++ wordsOf 2 t.gap ++ wordsOf 2 t.skipped

/-- The flag word of a header block. -/
def Header.flagWord (h : Header) : Word :=
  bitAt 15 h.epochs.isSome ||| bitAt 14 h.tally.a.windows.isSome ||| bitAt 13 h.tally.b.windows.isSome
    ||| bitAt 6 h.limited ||| bitAt 5 h.pinnedAny ||| bitAt 4 h.cleared ||| bitAt 3 h.freeRunning
    ||| bitAt 2 h.timeSet ||| bitAt 1 h.timeSuspect ||| bitAt 0 h.epochChanged

/-- The interval header block, 35 words from word `at_` of its item on; absent epochs read free values. -/
def headerWords (free : Nat → Word) (at_ : Nat) (h : Header) : List Word :=
  countWords h.sequence ++ countWords h.startSecond
    ++ (match h.epochs with
      | some (x, y) => countWords x ++ countWords y
      | none => [free (at_ + 4), free (at_ + 5), free (at_ + 6), free (at_ + 7)])
    ++ [h.flagWord, BitVec.ofNat 16 h.merged, BitVec.ofNat 16 h.interruptions]
    ++ tallyWords free (at_ + 11) h.tally.a ++ tallyWords free (at_ + 23) h.tally.b

/-! ### PORT space (10.7) -/

/-- The freeze condition of port `p` in the second status word: condition and buffer number (R155). The buffer number
of a port that holds none is a free value. -/
def freezeBits (s : State) (p : Port) : Word :=
  match s.freeze.heldBy p with
  | some b => fieldAt 11 2 ||| fieldAt 10 b.val
  | none => fieldAt 11 (if s.freeze.isWaiting p then 1 else 0) ||| (s.absent 1 &&& fieldAt 10 1)

/-- The status item (R180). -/
def statusWords (s : State) (p : Port) : List Word :=
  let ps := s.port p
  [(s.eventStatus p).setWidth 16,
    bitAt 15 ps.overrun ||| bitAt 14 ps.limited ||| bitAt 13 ps.cold ||| freezeBits s p
      ||| fieldAt 8 (timeStateCode s.time.state) ||| fieldAt 5 s.time.band.toNat] ++ countWords s.time.second

/-- The signalling and state bits of an entry's watch (R137). -/
def entryWatchBits (s : State) (e : PendingEntry) : Word :=
  match (s.account e.account).bind fun a => a.watches[e.watch]? with
  | some w => fieldAt 3 (signallingCode w.signalling) ||| bitAt 2 w.above
  | none => 0

/-- The pending-set item: the number of entries, then two words per entry (R136, R137). -/
def pendingSetWords (s : State) (p : Port) : List Word :=
  let es := (s.port p).pendingSet
  fieldAt 0 es.length :: es.flatMap fun e =>
    [fieldAt 8 e.account ||| fieldAt 6 e.watch ||| fieldAt 5 (crossingCode e.first)
        ||| fieldAt 4 (crossingCode e.latest) ||| entryWatchBits s e,
      fieldAt 0 e.count]

/-- A byte of the fault record's second word; an absent one reads a free value (R151, log entry 5). -/
def faultByte (free : Word) (shift : Nat) : Option Byte → Word
  | some b => fieldAt shift b.toNat
  | none => free &&& fieldAt shift 255

/-- The fault-record item; an empty record shows every field as 0 (R152). -/
def faultWords (s : State) (p : Port) : List Word :=
  let r := (s.port p).fault
  match r.content with
  | some f =>
    [bitAt 15 true ||| bitAt 14 r.overflow ||| fieldAt 11 (faultKindCode f.kind) ||| bitAt 10 f.request
        ||| bitAt 9 f.account.isSome ||| bitAt 8 f.entry.isSome,
      faultByte (s.absent 1) 8 f.account ||| faultByte (s.absent 1) 0 f.entry]
  | none => [bitAt 14 r.overflow, 0]

/-- The response-slot item (R178). The request code of the slot NONE is a free value. -/
def responseWords (s : State) (p : Port) : List Word :=
  match (s.port p).slot with
  | .none => [s.absent 0 &&& fieldAt 8 255]
  | .inProgress c => [fieldAt 8 c.toNat ||| fieldAt 0 3]
  | .answered c r => [fieldAt 8 c.toNat ||| fieldAt 0 (responseCode r)]

/-- The settings item (R182). -/
def settingsWords (s : State) (p : Port) : List Word :=
  let k := (s.port p).settings
  [fieldAt 2 k.exponent ||| fieldAt 0 (formatCode k.format), k.enables.setWidth 16]

/-! ### ACCOUNT item (R103, R147) -/

/-- The words of a watch; one that is hidden reads 0 in every field with its hidden mark set (R147). -/
def watchWords (hidden : Bool) (w : Watch) : List Word :=
  if hidden then bitAt 14 true :: List.replicate 8 0
  else
    (bitAt 15 w.enabled ||| fieldAt 13 (measureCode w.measure) ||| fieldAt 12 (signallingCode w.signalling)
      ||| bitAt 11 w.above ||| bitAt 10 w.route.u ||| bitAt 9 w.route.f ||| bitAt 8 w.route.c ||| fieldAt 0 w.bin)
      :: (wordsOf 4 w.high ++ wordsOf 4 w.low)

/-- Word `j` of the bin list: two codes, the first in bits 15-8; positions past the list read 0. -/
def binListWord (bins : List Bin) (j : Nat) : Word :=
  let code i := ((bins[i]?).map (·.code)).getD 0
  fieldAt 8 (code (2 * j)) ||| fieldAt 0 (code (2 * j + 1))

/-- The visibility bit set of a bin list. -/
def visibilityWords (bins : List Bin) : List Word := binSetWords (bins.map (·.ownerOnly))

/-- The first word of the ACCOUNT item; the pending cause of a clear mark is a free value. -/
def accountWord0 (free : Nat → Word) (n : Nat) (a : Account) : Word :=
  fieldAt 14 (if a.suspended then 2 else 1) ||| fieldAt 12 (portCode (ownerOf n)) ||| fieldAt 10 (scopeCode a.scope)
    ||| fieldAt 9 (modeCode a.mode) ||| fieldAt 8 (policyCode a.policy) ||| bitAt 7 a.closeOnBandChange
    ||| bitAt 6 a.pendingClose.isSome
    ||| (match a.pendingClose with
      | some c => fieldAt 4 (closeCauseCode c)
      | none => free 0 &&& fieldAt 4 3)
    ||| bitAt 3 a.deferredClose

/-- The third word of the ACCOUNT item; the band of an absent last-band-seen is a free value. -/
def accountWord2 (free : Nat → Word) (a : Account) : Word :=
  (match a.lastBand with
    | some b => bitAt 15 true ||| fieldAt 12 b.toNat
    | none => free 2 &&& fieldAt 12 7)
    ||| fieldAt 9 (rightCode a.rights.first) ||| fieldAt 7 (rightCode a.rights.second)

/-- The ACCOUNT item of account `n` as port `p` reads it, 102 words (R103, R147, 10.7). -/
def accountWords (free : Nat → Word) (n : Nat) (p : Port) (a : Account) : List Word :=
  [accountWord0 free n a, fieldAt 8 a.bandMask.toNat ||| fieldAt 0 a.bins.length, accountWord2 free a]
    ++ wordsOf 2 a.period ++ visibilityWords a.bins ++ (List.range 20).map (binListWord a.bins)
    ++ [fieldAt 8 a.ring.records.length ||| bitAt 7 a.ring.writing ||| fieldAt 0 a.ring.oldestSlot]
    ++ ((a.ring.records.head?.map fun h => countWords h.header.sequence).getD [0, 0])
    ++ headerWords free 31 a.header
    ++ a.watches.toList.flatMap fun w => watchWords (p != ownerOf n && a.hides w.bin) w

/-! ### History records and freeze copies -/

/-- The bin values of a history record, with those hidden from the reader masked; the top bit reads 0 (R147, R175). -/
def recordBinWords (f : Format) (k : Nat) (hidden : Nat → Bool) (values : List Nat) : List OutWord :=
  values.zipIdx.flatMap fun vi => if hidden vi.2 then maskedWords f else binWords f k false vi.1

/-- A history record as port `p` reads it; a WRITING one reads as NOT_READY with its sequence number alone
(R121, R126, R147). -/
def recordWords (free : Nat → Word) (f : Format) (k : Nat) (hidden : Nat → Bool) (h : HistoryRecord) :
    List OutWord :=
  if h.writing then
    plainWords ([bitAt 15 true, 0, 0] ++ countWords h.header.sequence ++ List.replicate 33 0)
  else
    plainWords ((fieldAt 13 (closeCauseCode h.cause) ||| fieldAt 0 h.values.length) :: countWords h.endSecond
        ++ headerWords free 3 h.header)
      ++ recordBinWords f k hidden h.values

/-- Bin `i` of a copy is closed to port `p`: it was OWNER_ONLY at the copy, or is now while the account still has it
(R149). -/
def copyCloses (s : State) (n : Nat) (p : Port) (i : Nat) (b : Bin) : Bool :=
  p != ownerOf n && (b.ownerOnly || ((s.account n).map fun a => a.hides i).getD false)

/-- The state code of a copy: 0 FREE, 1 OPEN, 2 SUSPENDED. -/
def Copy.stateCode (c : Copy) : Nat :=
  match c.body with
  | none => 0
  | some b => if b.suspended then 2 else 1

/-- The bins of a copy. -/
def Copy.bins (c : Copy) : List Bin := (c.body.map (·.bins)).getD []

/-- The FREEZE item: the copy held in buffer `b` as port `p` reads it (R166, 10.7). Absent fields of its header read the
copy's own draw of free values, so each read of one copy returns the same content. -/
def copyWords (s : State) (b : Fin 2) (h : Holding) (p : Port) (f : Format) (k : Nat) : List OutWord :=
  let c := h.copy
  plainWords
    ([fieldAt 8 c.account ||| fieldAt 7 b.val ||| fieldAt 5 c.stateCode ||| fieldAt 3 (portCode (ownerOf c.account))
        ||| bitAt 2 h.reclaimDue ||| fieldAt 0 s.freeze.waiting.length,
      fieldAt 8 c.bins.length ||| fieldAt 0 (s.freeze.buffer b).timer] ++ countWords c.second
      ++ visibilityWords c.bins ++ binSetWords (c.bins.map (·.pinned))
      ++ (c.body.map fun y => headerWords (Config.absentWord c.draw) 10 y.header).getD [])
    ++ c.bins.zipIdx.flatMap fun bi =>
      if copyCloses s c.account p bi.2 bi.1 then maskedWords f else binWords f k false bi.1.value

/-! ### RESULT item (R60) -/

/-- The disposition code: 1 VALID, 2 SUBSTITUTED, 3 GAP. -/
def dispositionCode : Figures → Nat
  | .valid _ _ => 1
  | .substituted _ => 2
  | .gap => 3

/-- A signed figure in four words of two's complement. -/
def figureWords (x : Int) : List Word := wordsOf 4 (x % 2 ^ 64).toNat

/-- The raw figures a record carries. -/
def Figures.raw : Figures → List Int
  | .valid _ raw => raw
  | _ => []

/-- The RESULT item: 203 words for VALID, 143 for SUBSTITUTED, 7 for GAP and for NONE, which reads 0 (R60). -/
def resultWords : Option ResultRecord → List Word
  | none => List.replicate 7 0
  | some r =>
    (fieldAt 14 (dispositionCode r.figures) ||| fieldAt 13 (incomerCode r.incomer)
        ||| fieldAt 12 (windowCauseCode r.cause) ||| bitAt 11 r.limited ||| fieldAt 8 r.band.toNat)
      :: (countWords r.window ++ countWords r.epoch ++ wordsOf 2 r.ticks
        ++ r.figures.increments.flatMap (wordsOf 4) ++ r.figures.raw.flatMap figureWords)

/-! ### JOINT items (R65, R67, R69) -/

/-- Word `j` of the class map: four 4-bit entries, the first in bits 15-12 (10.7). -/
def classWord (t : Table) (j : Nat) : Word :=
  let e i := t.classMap.toList.getD (4 * j + i) 0
  e 0 ++ e 1 ++ e 2 ++ e 3

/-- Words 0 to 59 of a JOINT item (10.7). -/
def tableWords (t : Table) : List Word :=
  [t.frequency, bitAt 0 t.enabled.a ||| bitAt 1 t.enabled.b] ++ countWords t.weight.a ++ countWords t.weight.b
    ++ t.gain.toList ++ t.skew.toList.map (·.signExtend 16) ++ (List.range 13).map (classWord t)
    ++ t.inductiveRatio.toList ++ t.capacitiveRatio.toList ++ [t.slotLength.setWidth 16]

/-- Item 0: the committed table with its epoch (R65). -/
def committedWords (j : Joint) : List Word := tableWords j.committed ++ countWords j.epoch

/-- Item 1: a draft with its base epoch (R67). -/
def draftWords (d : Draft) : List Word := tableWords d.table ++ countWords d.baseEpoch

/-- Item 2: the pending proposal, or the serial counter in the serial position and 0 elsewhere (R69). -/
def proposalWords (j : Joint) : List Word :=
  match j.proposal with
  | some q =>
    tableWords q.table ++ [bitAt 15 true ||| fieldAt 0 (portCode q.proposer), q.serial, fieldAt 0 q.remaining]
  | none => List.replicate 61 0 ++ [j.serialCounter, 0]

/-- The words of a JOINT item at port `p`; item 1 is the port's own draft. -/
def jointWords (j : Joint) (p : Port) (item : Byte) : List Word :=
  if item = 0 then committedWords j
  else if item = 1 then ((j.draft p).map draftWords).getD []
  else proposalWords j

/-- The class map with the four entries of word `j` written; positions past order 50 are not held. -/
def writeClasses (m : Vector (BitVec 4) 49) (j : Nat) (w : Word) : Vector (BitVec 4) 49 :=
  (((m.setIfInBounds (4 * j) (w.extractLsb' 12 4)).setIfInBounds (4 * j + 1) (w.extractLsb' 8 4)).setIfInBounds
    (4 * j + 2) (w.extractLsb' 4 4)).setIfInBounds (4 * j + 3) (w.extractLsb' 0 4)

/-- The high or low word of a 32-bit field written. -/
def writeHalf (c : BitVec 32) (high : Bool) (w : Word) : BitVec 32 :=
  if high then w ++ c.extractLsb' 0 16 else c.extractLsb' 16 16 ++ w

/-- A table with word `k` of its item written (R67, R185). Words 60 and 61, the base epoch, are ignored. -/
def writeTable (t : Table) (k : Nat) (w : Word) : Table :=
  if k = 0 then { t with frequency := w }
  else if k = 1 then { t with enabled := { a := w.getLsbD 0, b := w.getLsbD 1 } }
  else if k < 4 then { t with weight := { t.weight with a := writeHalf t.weight.a (k == 2) w } }
  else if k < 6 then { t with weight := { t.weight with b := writeHalf t.weight.b (k == 4) w } }
  else if k < 18 then { t with gain := t.gain.setIfInBounds (k - 6) w }
  else if k < 30 then { t with skew := t.skew.setIfInBounds (k - 18) (w.extractLsb' 0 12) }
  else if k < 43 then { t with classMap := writeClasses t.classMap (k - 30) w }
  else if k < 51 then { t with inductiveRatio := t.inductiveRatio.setIfInBounds (k - 43) w }
  else if k < 59 then { t with capacitiveRatio := t.capacitiveRatio.setIfInBounds (k - 51) w }
  else if k = 59 then { t with slotLength := w.extractLsb' 0 8 }
  else t

/-- The number of words of JOINT item 1 (10.7). -/
def draftLength : Nat := 62

end Sys2Proof.Machine
end

