-- ==== Sys2Proof/Machine/Transactions.lean ====
section
/-! DEFINITION. The transactions of the serial ports, event by event (R137, R144 to R153, R166, R170 to R182): the
meanings of REQUEST_RECORD, DRAFT_WRITE, the reads, BAD_FRAMING, WRONG_DIRECTION_ACCESS and ABSENT_ITEM_ACCESS. -/

namespace Sys2Proof.Machine

/-! ### Transaction state -/

/-- A transaction right after its head word, in the readout of its begin (R171, R173, R182). -/
def Transaction.begin (r : Readout) (k : TxKind) (w : Word) (opened : Bool) : Transaction :=
  { kind := k, head := w, opened := opened, offset := none, pointer := 0, moved := 0, latch := [], zeros := false,
    faulted := false, entry := 0, past := false, seek := none, format := r.format, exponent := r.exponent,
    keys := [], words := [] }

/-- The item number of a transaction (R171). -/
def Transaction.item (t : Transaction) : Byte := (decodeHead t.head).item

/-- Port `p` enters transaction `t`, having shifted out FFFFh during the head word (R170). -/
def State.enter (s : State) (p : Port) (t : Transaction) : State :=
  s.updPort p fun ps => { ps with transaction := some t, dataOut := 0xFFFF }

/-- Port `p`'s transaction goes on as `t` with `w` shifted out. -/
def State.shift (s : State) (p : Port) (t : Transaction) (w : Word) : State :=
  s.updPort p fun ps => { ps with transaction := some t, dataOut := w }

/-- The transaction after one more data word (R173). -/
def Transaction.step (t : Transaction) : Transaction := { t with pointer := t.pointer + 1, moved := t.moved + 1 }

/-- A word of a failed check is shifted out: 0000h (R146). -/
def State.shiftZero (s : State) (p : Port) (t : Transaction) : State := s.shift p t.step 0

/-- A word past the end is shifted out: 0000h with OVERRUN (R173). -/
def State.shiftPast (s : State) (p : Port) (t : Transaction) : State :=
  (s.shift p t.step 0).updPort p PortState.setOverrun

/-- A word of the item is shifted out; a saturated COMPACT value sets LIMITED (R173, R176). -/
def State.shiftOut (s : State) (p : Port) (t : Transaction) (w : OutWord) : State :=
  (s.shift p t.step w.word).updPort p fun ps => if w.saturated then ps.setLimited else ps

/-- One data word of an item latched whole (R172, R173). -/
def State.readItem (s : State) (p : Port) (t : Transaction) : State :=
  if t.zeros then s.shiftZero p t
  else match t.latch[t.pointer]? with
    | some w => s.shiftOut p t w
    | none => s.shiftPast p t

/-- A fault of a transaction: written at most once (R146, R151). -/
def State.txFault (s : State) (p : Port) (t : Transaction) (f : FaultInfo) : State :=
  if t.faulted then s else s.writeFault p f

/-- The transaction after a failed check that leaves every further word 0000h (R146). -/
def Transaction.fail (t : Transaction) : Transaction := { t with zeros := true, faulted := true }

/-- A head word that a test of R171 or R170 fails: the fault is written and no transaction is open. -/
def State.failHead (s : State) (p : Port) (r : Readout) (k : TxKind) (w : Word) (f : FaultInfo) : State :=
  (s.writeFault p f).enter p (Transaction.begin r k w false).fail

/-- The transaction of port `p` ends with the rise of chip select (R170, R173). -/
def State.close (s : State) (p : Port) : State :=
  s.updPort p fun ps => { ps with select := .high, transaction := none }

/-- An event at a port whose reset input is asserted: data out is held high, and a fall of chip select frames no transaction
(R183). -/
def PortState.heldOff (ps : PortState) : TxEvent → PortState
  | .fall => { ps with select := .ignored, dataOut := 0xFFFF }
  | .rise => { ps with select := .high, dataOut := 0xFFFF }
  | .head _ => { ps with dataOut := 0xFFFF }
  | .word _ => { ps with dataOut := 0xFFFF }

/-- The fall of chip select begins a transaction in the readout of the settings as they stand (R170, R182). -/
def State.fall (s : State) (p : Port) : State := s.updPort p fun ps => { ps with select := .low ps.settings.readout }

/-- A word shifted while chip select is low and frames no transaction changes nothing but the data output (log entry 35). -/
def State.ignoreWord (s : State) (p : Port) : State :=
  s.drawn.updPort p fun ps => { ps with dataOut := Config.ignoredWord s.freeDraws }

/-- An event at port `p` between transactions, the reset input not asserted: chip select falls and begins one, the head word
of row `k` completes, or chip select rises before that; while chip select is low and ignored, words are too (R170, R183; log
entries 2 and 35). -/
def State.between (s : State) (p : Port) (k : TxKind) (e : TxEvent) (head : Readout → Word → State) : State :=
  match e with
  | .fall => if (s.port p).select = .high then s.fall p else s
  | .head w =>
    match (s.port p).select with
    | .high => s
    | .low r => if rowOf p w = k then head r w else s
    | .ignored => s.ignoreWord p
  | .word _ => if (s.port p).select = .ignored then s.ignoreWord p else s
  | .rise => s.close p

/-- The events of a transaction of row `k` at port `p`. While the port reset input is asserted the port takes no
transaction and holds its data output high (R183). A head word opens a transaction only when chip select has fallen, none
stands, and it is one of the row; a further word and the rise of chip select belong to the transaction that stands, if it is
of the row (log entry 2). -/
def State.transact (s : State) (p : Port) (k : TxKind) (e : TxEvent) (head : Readout → Word → State)
    (word : Transaction → Word → State) (rise : Transaction → State) : State :=
  if (s.port p).resetAsserted then s.updPort p fun ps => ps.heldOff e
  else match (s.port p).transaction with
    | none => s.between p k e head
    | some t =>
      match e with
      | .fall => s
      | .head _ => s
      | .word w => if t.kind = k then word t w else s
      | .rise => if t.kind = k then rise t else s

/-! ### Refused head words (R150, R170, R171) -/

/-- The fault of a head word that is ignored: the operation is the direction the head word gives (R150). -/
def wrongDirectionFault (w : Word) : FaultInfo :=
  { kind := .wrongDirection, request := (decodeHead w).write, account := none, entry := none }

/-- The fault of a head word that names an item its space does not hold (R150, R171). R150 maps the direction to the
operation for WRONG_DIRECTION; that it holds for an absent item too is DEDUCED (log entry 33). -/
def absentItemFault (w : Word) : FaultInfo :=
  { kind := .absentEntry, request := (decodeHead w).write, account := none, entry := some (decodeHead w).item }

/-- BAD_FRAMING (R150, R170): every later word reads FFFFh until chip select rises. -/
def execBadFraming (p : Port) (e : TxEvent) (s : State) : Host.Outcome State Fault Refusal :=
  .next (s.transact p .badFraming e (fun r w => s.failHead p r .badFraming w (wrongDirectionFault w))
    (fun t _ => s.shift p t.step 0xFFFF) (fun _ => s.close p))

/-- WRONG_DIRECTION_ACCESS (R150, R171): every word reads 0000h and a write changes nothing. -/
def execWrongDirectionAccess (p : Port) (e : TxEvent) (s : State) : Host.Outcome State Fault Refusal :=
  .next (s.transact p .wrongDirection e (fun r w => s.failHead p r .wrongDirection w (wrongDirectionFault w))
    (fun t _ => s.shiftZero p t) (fun _ => s.close p))

/-- ABSENT_ITEM_ACCESS (R150, R171): every word reads 0000h and a write is ignored. -/
def execAbsentItemAccess (p : Port) (e : TxEvent) (s : State) : Host.Outcome State Fault Refusal :=
  .next (s.transact p .absentItem e (fun r w => s.failHead p r .absentItem w (absentItemFault w))
    (fun t _ => s.shiftZero p t) (fun _ => s.close p))

/-! ### Reads of the spaces open to every port (R60, R65, R69, R153, R178, R180, R182) -/

/-- The words of an open item at its head word. -/
def openItemWords (s : State) (p : Port) (h : HeadWord) : List Word :=
  match h.space with
  | .port =>
    if h.item = 0 then statusWords s p else if h.item = 3 then responseWords s p else settingsWords s p
  | .result => resultWords (s.calc (if h.item = 0 then .A else .B)).latest
  | .joint => jointWords s.joint p h.item
  | _ => []

/-- The transaction is a read of the status, PORT item 0 (R180). -/
def Transaction.isStatus (t : Transaction) : Bool := (decodeHead t.head).space == .port && t.item == 0

/-- The transaction is of the JOINT space, which has an offset word (R172). -/
def Transaction.isJoint (t : Transaction) : Bool := (decodeHead t.head).space == .joint

/-- What is noted since the head word of a status read starts anew (R180). -/
def PortState.beginStatus (ps : PortState) : PortState :=
  { ps with edgesSince := 0, overrunSince := false, limitedSince := false }

/-- The event-status word `w` of a status read has been shifted out: each edge indication that it returned as set
clears, but for those raised after the head word; the cold flag clears with RESTART (R179, R180). -/
def PortState.clearEdges (ps : PortState) (w : Word) : PortState :=
  let edges := ps.edges &&& ~~~(w.setWidth 12 &&& ~~~ps.edgesSince)
  { ps with edges := edges, cold := ps.cold && edges.getLsbD Event.restart.bit }

/-- The word `w` that carries OVERRUN and LIMITED has been shifted out: each that it returned as set clears, unless set
again after the head word (R180). -/
def PortState.clearFlags (ps : PortState) (w : Word) : PortState :=
  { ps with
    overrun := ps.overrun && !(w.getLsbD 15 && !ps.overrunSince)
    limited := ps.limited && !(w.getLsbD 14 && !ps.limitedSince) }

/-- The effect of the status word at the pointer once it is shifted out (R180). -/
def PortState.statusShifted (ps : PortState) (t : Transaction) : PortState :=
  match t.latch[t.pointer]? with
  | some w => if t.pointer = 0 then ps.clearEdges w.word else if t.pointer = 1 then ps.clearFlags w.word else ps
  | none => ps

/-- The offset word of the JOINT space is taken: the pointer starts at that word of the item (R172, R173). -/
def State.takeOffset (s : State) (p : Port) (t : Transaction) (w : Word) : State :=
  s.shift p { t with offset := some w, pointer := w.toNat } 0

/-- The head word of an open item: the item is latched whole (R172). -/
def State.openHead (s : State) (p : Port) (r : Readout) (w : Word) : State :=
  let t := { Transaction.begin r .openItem w true with
    latch := plainWords (openItemWords s p (decodeHead w)) }
  let u := s.drawn.enter p t
  if t.isStatus then u.updPort p PortState.beginStatus else u

/-- A further word of an open item: the offset word of the JOINT space, or a data word. -/
def State.openWord (s : State) (p : Port) (t : Transaction) (w : Word) : State :=
  if t.isJoint ∧ t.offset = none then s.takeOffset p t w
  else if t.isStatus then (s.readItem p t).updPort p fun ps => ps.statusShifted t
  else s.readItem p t

/-- STATUS_READ (R112, R180), and the other reads of R153 that the table gives no row (log entry 3). -/
def execStatusRead (p : Port) (e : TxEvent) (s : State) : Host.Outcome State Fault Refusal :=
  .next (s.transact p .openItem e (s.openHead p) (s.openWord p) (fun _ => s.close p))

/-! ### The pending set (R136, R137) -/

/-- An entry at the head word of a pending-set read: no crossing is recorded since (R137). -/
def PendingEntry.latched (e : PendingEntry) : PendingEntry := { e with sinceCount := 0 }

/-- The head word of a pending-set read (R137). -/
def State.pendingHead (s : State) (p : Port) (r : Readout) (w : Word) : State :=
  let t := { Transaction.begin r .pendingSet w true with
    latch := plainWords (pendingSetWords s p)
    keys := (s.port p).pendingSet.map fun e => (e.account, e.watch) }
  (s.enter p t).updPort p fun ps => { ps with pendingSet := ps.pendingSet.map PendingEntry.latched }

/-- The watch of an entry is LEVEL and ABOVE. -/
def State.levelAbove (s : State) (e : PendingEntry) : Bool :=
  match (s.account e.account).bind fun a => a.watches[e.watch]? with
  | some w => w.signalling == .level && w.above
  | none => false

/-- What the end of the transaction leaves of an entry that was read (R137). -/
def State.settleEntry (s : State) (e : PendingEntry) : Option PendingEntry :=
  if 0 < e.sinceCount then some { e with first := e.sinceFirst, count := e.sinceCount }
  else if s.levelAbove e then some { e with first := e.latest, count := 0 }
  else none

/-- The number of entries read to their last word after `moved` data words (R137). -/
def entriesRead (moved : Nat) : Nat := (moved - 1) / 2

/-- The pending set of port `p` after the end of a read that moved the words of transaction `t` (R137, R174). -/
def State.pendingAfter (s : State) (p : Port) (t : Transaction) : List PendingEntry :=
  (s.port p).pendingSet.filterMap fun e =>
    if (e.account, e.watch) ∈ t.keys.take (entriesRead t.moved) then s.settleEntry e else some e

/-- PENDING_SET_READ (R137, R174). -/
def execPendingSetRead (p : Port) (e : TxEvent) (s : State) : Host.Outcome State Fault Refusal :=
  .next (s.transact p .pendingSet e (s.pendingHead p) (fun t _ => s.readItem p t)
    (fun t => (s.close p).updPort p fun ps => { ps with pendingSet := s.pendingAfter p t }))

/-! ### The fault record (R152) -/

/-- The head word of a fault-record read (R152). -/
def State.faultHead (s : State) (p : Port) (r : Readout) (w : Word) : State :=
  let t := { Transaction.begin r .faultRecord w true with latch := plainWords (faultWords s p) }
  (s.drawn.enter p t).updPort p fun ps => { ps with faultSince := false }

/-- The port after a fault-record read that moved the words of transaction `t`: emptied when the last word was
shifted out and no fault was written after the head word (R152, R174). -/
def PortState.faultRead (ps : PortState) (t : Transaction) : PortState :=
  if 2 ≤ t.moved ∧ ps.faultSince = false then { ps with fault := FaultRecord.empty } else ps

/-- FAULT_RECORD_READ (R152, R174). -/
def execFaultRecordRead (p : Port) (e : TxEvent) (s : State) : Host.Outcome State Fault Refusal :=
  .next (s.transact p .faultRecord e (s.faultHead p) (fun t _ => s.readItem p t)
    (fun t => (s.close p).updPort p fun ps => ps.faultRead t))

/-! ### The ACCOUNT item (R103, R145) -/

/-- The fault of a read that fails on account `n`, with an entry index where it has one (R151). -/
def readFault (k : FaultKind) (n : Nat) (entry : Option Nat) : FaultInfo :=
  { kind := k, request := false, account := some (heldIndex n), entry := entry.map heldIndex }

/-- The account a transaction's item names. -/
def accountOf (w : Word) : Nat := (decodeHead w).item.toNat

/-- The head word of an ACCOUNT read: the directory level, then the item latched whole (R103, R145). -/
def State.accountHead (s : State) (p : Port) (r : Readout) (w : Word) : State :=
  let n := accountOf w
  match s.account n with
  | none => s.failHead p r .account w (readFault .absentAccount n none)
  | some a =>
    if a.permits n p .read then
      s.drawn.enter p { Transaction.begin r .account w true with
        latch := plainWords (accountWords s.absent n p a) }
    else s.failHead p r .account w (readFault .rights n none)

/-- ACCOUNT_READ (R103, R145 to R147). -/
def execAccountRead (p : Port) (e : TxEvent) (s : State) : Host.Outcome State Fault Refusal :=
  .next (s.transact p .account e (s.accountHead p) (fun t _ => s.readItem p t) (fun _ => s.close p))

/-! ### Entries latched as their first word moves (R145, R146, R172) -/

/-- The head word of a BINS or HISTORY read: the directory level (R145). -/
def State.entryHead (s : State) (p : Port) (k : TxKind) (r : Readout) (w : Word) : State :=
  match s.directory (accountOf w) p .read with
  | some f => s.failHead p r k w (readFault f (accountOf w) none)
  | none => s.enter p (Transaction.begin r k w true)

/-- The offset word of a BINS or HISTORY read fails: every word after it reads 0000h (R146). -/
def State.failOffset (s : State) (p : Port) (t : Transaction) (w : Word) : State :=
  (s.txFault p t (readFault .absentEntry (accountOf t.head) (some w.toNat))).shift p
    { t.fail with offset := some w } 0

/-- A directory failure at an entry's first word (R146). -/
def State.failEntry (s : State) (p : Port) (t : Transaction) (f : FaultInfo) : State :=
  (s.txFault p t f).shiftZero p t.fail

/-- The first of the latched words is shifted out; with none latched, the word lies past the end. -/
def State.pop (s : State) (p : Port) (t : Transaction) : State :=
  match t.latch with
  | w :: ws => s.shiftOut p { t with latch := ws } w
  | [] => s.shiftPast p t

/-! ### BINS (R144 to R146) -/

/-- The index has reached the bin count of account `n` (R144). A slot that has become FREE has no bin count to reach: the
directory level, at the next bin's first word, finds it (R145; log entry 19). -/
def State.pastBins (s : State) (n index : Nat) : Bool :=
  ((s.account n).map fun a => decide (a.bins.length ≤ index)).getD false

/-- The offset word of a BINS read: the index test of the starting bin (R144, R145). -/
def State.binsOffset (s : State) (p : Port) (t : Transaction) (w : Word) : State :=
  if s.pastBins (accountOf t.head) w.toNat then s.failOffset p t w
  else s.shift p { t with offset := some w, entry := w.toNat } 0

/-- The first word of a bin: the directory level, the end of the bin list, and the bin's visibility (R145, R146). An index
past the last bin ends the item (R173). -/
def State.binFirst (s : State) (p : Port) (t : Transaction) : State :=
  let n := accountOf t.head
  match s.account n with
  | none => s.failEntry p t (readFault .absentAccount n none)
  | some a =>
    if !a.permits n p .read then s.failEntry p t (readFault .rights n none)
    else match a.bins[t.entry]? with
      | none => s.shiftPast p { t with past := true }
      | some b =>
        let t' := { t with entry := t.entry + 1, past := decide (a.bins.length ≤ t.entry + 1) }
        if b.ownerOnly && p != ownerOf n then
          (s.txFault p t (readFault .rights n (some t.entry))).pop p
            { t' with latch := maskedWords t.format, faulted := true }
        else s.pop p { t' with latch := binWords t.format t.exponent b.pinned b.value }

/-- The last word of a bin: a bin that was the last of the account at its first word is the last no more when the account
has a further bin by now, the slot having been opened again (R173; log entry 31). A bin that was not the last leaves the
next index to the check at its own first word (R145, R146). -/
def State.binsOn (s : State) (t : Transaction) : Transaction :=
  match s.account (accountOf t.head) with
  | some a => if t.latch.length ≤ 1 then { t with past := t.past && decide (a.bins.length ≤ t.entry) } else t
  | none => t

/-- A further word of a BINS read. Once the pointer has passed the last bin, every word lies past the end and no check is
made (R173). -/
def State.binsWord (s : State) (p : Port) (t : Transaction) (w : Word) : State :=
  if t.zeros then s.shiftZero p t
  else if t.offset = none then s.binsOffset p t w
  else if t.latch = [] then if t.past then s.shiftPast p t else s.binFirst p t
  else s.pop p (s.binsOn t)

/-- BINS_READ (R144 to R146, R173, R175, R176). -/
def execBinsRead (p : Port) (e : TxEvent) (s : State) : Host.Outcome State Fault Refusal :=
  .next (s.transact p .bins e (s.entryHead p .bins) (s.binsWord p) (fun _ => s.close p))

/-! ### HISTORY (R125, R126, R144 to R147) -/

/-- The records of an account's ring; a FREE slot has none. -/
def State.recordsOf (s : State) (n : Nat) : List HistoryRecord := ((s.account n).map fun a => a.ring.records).getD []

/-- The record a walk reaches that seeks sequence `q`: that record or, when it has left the ring, the oldest one whose
sequence is higher (R125). -/
def reach (records : List HistoryRecord) (q : Count) : Option HistoryRecord :=
  records.find? fun h => (h.header.sequence - q).toNat < 2 ^ 31

/-- The offset word of a ring walk: the starting position (R125, R144, R145). The ring of a slot torn down since the head
word held no record (R90), and a FREE slot holds none: DEDUCED (log entry 19). -/
def State.walkOffset (s : State) (p : Port) (t : Transaction) (w : Word) : State :=
  match (s.recordsOf (accountOf t.head))[w.toNat]? with
  | some h => s.shift p { t with offset := some w, seek := some h.header.sequence } 0
  | none => s.failOffset p t w

/-- After the last word of a record the walk ends when no record of the ring follows it (R125). -/
def State.walkOn (s : State) (t : Transaction) : Transaction :=
  if t.latch.length ≤ 1 then
    { t with seek := t.seek.bind fun q => if (reach (s.recordsOf (accountOf t.head)) q).isSome then some q else none }
  else t

/-- The first word of a record: the directory level, then the record latched whole (R125, R126, R145, R147). When the
record sought has left the ring and none follows it, the directory check is still made first: DEDUCED (log entry 32). -/
def State.walkFirst (s : State) (p : Port) (t : Transaction) : State :=
  let n := accountOf t.head
  match t.seek with
  | none => s.shiftPast p t
  | some q =>
    match s.account n with
    | none => s.failEntry p t (readFault .absentAccount n none)
    | some a =>
      if !a.permits n p .read then s.failEntry p t (readFault .rights n none)
      else match reach a.ring.records q with
        | none => s.shiftPast p { t with seek := none }
        | some h =>
          s.pop p { t with
            latch := recordWords (Config.absentRecordWord n h.header.sequence h.endSecond) t.format t.exponent
              (fun i => p != ownerOf n && a.hides i) h
            seek := if h.writing then none else some (h.header.sequence + 1) }

/-- A further word of a ring walk. -/
def State.walkWord (s : State) (p : Port) (t : Transaction) (w : Word) : State :=
  if t.zeros then s.shiftZero p t
  else if t.offset = none then s.walkOffset p t w
  else if t.latch = [] then s.walkFirst p t
  else s.pop p (s.walkOn t)

/-- RING_WALK (R125, R126, R144 to R147). -/
def execRingWalk (p : Port) (e : TxEvent) (s : State) : Host.Outcome State Fault Refusal :=
  .next (s.transact p .history e (s.entryHead p .history) (s.walkWord p) (fun _ => s.close p))

/-! ### FREEZE (R149, R165, R166) -/

/-- The checks of a FREEZE read by port `p` (R149): the held buffer, then the directory level against the copy's slot;
absent when they pass, else the fault. -/
def State.copyFault (s : State) (p : Port) : Option FaultInfo :=
  match s.freeze.heldBy p with
  | none => some { kind := .notHeld, request := false, account := none, entry := none }
  | some b =>
    match (s.freeze.buffer b).held with
    | none => some { kind := .notHeld, request := false, account := none, entry := none }
    | some h =>
      if p = ownerOf h.copy.account then none
      else (s.directory h.copy.account p .read).map fun k => readFault k h.copy.account none

/-- The words of the copy port `p` holds (R166). -/
def State.heldWords (s : State) (p : Port) (t : Transaction) : List OutWord :=
  match s.freeze.heldBy p with
  | none => []
  | some b => (((s.freeze.buffer b).held).map fun h => copyWords s b h p t.format t.exponent).getD []

/-- The head word of a FREEZE read (R145, R149). -/
def State.freezeHead (s : State) (p : Port) (r : Readout) (w : Word) : State :=
  match s.copyFault p with
  | some f => s.failHead p r .freeze w f
  | none => s.enter p (Transaction.begin r .freeze w true)

/-- The first word of the copy: the checks again, then the copy latched whole (R149, R166). -/
def State.copyFirst (s : State) (p : Port) (t : Transaction) : State :=
  match s.copyFault p with
  | some f => s.failEntry p t f
  | none => s.pop p { t with latch := s.heldWords p t, entry := 1 }

/-- A further word of a FREEZE read. -/
def State.freezeWord (s : State) (p : Port) (t : Transaction) : State :=
  if t.zeros then s.shiftZero p t
  else if t.entry = 0 then s.copyFirst p t
  else s.pop p t

/-- FREEZE_READ (R149, R165, R166): the end of the transaction settles a deferred reclaim. -/
def execFreezeRead (p : Port) (e : TxEvent) (s : State) : Host.Outcome State Fault Refusal :=
  .next (s.transact p .freeze e (s.freezeHead p) (fun t _ => s.freezeWord p t)
    (fun _ => (s.close p).endFreezeRead p))

/-! ### Draft writes (R67, R172, R173) -/

/-- Word `k` of port `p`'s draft written; port C has no draft (R67). -/
def State.writeDraft (s : State) (p : Port) (k : Nat) (w : Word) : State :=
  match s.joint.draft p with
  | some d => s.setJoint (s.joint.setDraft p { d with table := writeTable d.table k w })
  | none => s

/-- A further word of a draft write: the offset word, or a data word that takes effect in the draft at once; 0000h is
shifted out (R67, R170, R172, R173). -/
def State.draftWord (s : State) (p : Port) (t : Transaction) (w : Word) : State :=
  if t.offset = none then s.takeOffset p t w
  else if t.pointer < draftLength then (s.writeDraft p t.pointer w).shiftZero p t
  else s.shiftPast p t

/-- DRAFT_WRITE (R67). -/
def execDraftWrite (p : Port) (e : TxEvent) (s : State) : Host.Outcome State Fault Refusal :=
  .next (s.transact p .draft e (fun r w => s.enter p (Transaction.begin r .draft w true)) (s.draftWord p)
    (fun _ => s.close p))

/-! ### Request records (R177, R178) -/

/-- A data word of a request record joins it; one beyond the record's length is ignored and sets OVERRUN (R173, R177).
A code that names no request has no length, and its words are not kept. -/
def State.requestWord (s : State) (p : Port) (t : Transaction) (w : Word) : State :=
  match neededWords t.item.toNat t.words with
  | some n =>
    if t.words.length < n then s.shiftZero p { t with words := t.words ++ [w] } else s.shiftPast p t
  | none => s.shiftZero p t

/-- The response slot of port `p` answered by the port controller itself (R178). -/
def State.answerAt (s : State) (p : Port) (code : Byte) (r : Response) : State :=
  s.updPort p fun ps => { ps with slot := .answered code r }

/-- The record is judged at the rise of chip select: UNKNOWN, INVALID for a short record, BUSY while a request is in
flight, else it becomes the request in flight (R177, R178). -/
def State.judgeRecord (s : State) (p : Port) (t : Transaction) : State :=
  match neededWords t.item.toNat t.words with
  | none => s.answerAt p t.item .unknown
  | some n =>
    if t.words.length < n then s.answerAt p t.item .invalid
    else if (s.port p).inFlight.isSome then s.answerAt p t.item .busy
    else s.updPort p fun ps =>
      { ps with slot := .inProgress t.item, inFlight := some { code := t.item, words := t.words } }

/-- REQUEST_RECORD (R177, R178). -/
def execRequestRecord (p : Port) (e : TxEvent) (s : State) : Host.Outcome State Fault Refusal :=
  .next (s.transact p .request e (fun r w => s.enter p (Transaction.begin r .request w true))
    (s.requestWord p) (fun t => (s.close p).judgeRecord p t))

end Sys2Proof.Machine
end

