-- ==== Sys2Proof/Machine/Dispatch.lean ====
section
/-! DEFINITION. The meaning of every command: one arm for each constructor of `Instr`. -/

namespace Sys2Proof.Machine

def exec (i : Instr) (s : State) : Host.Outcome State Fault Refusal :=
  match i with
  | .frameArrival k bytes => Sys2Proof.Machine.execFrameArrival k bytes s
  | .silenceExpiry k => Sys2Proof.Machine.execSilenceExpiry k s
  | .timeLimitClose k => Sys2Proof.Machine.execTimeLimitClose k s
  | .transformBegin => Sys2Proof.Machine.execTransformBegin s
  | .invalidEntryLeave => Sys2Proof.Machine.execInvalidEntryLeave s
  | .transformCompletion => Sys2Proof.Machine.execTransformCompletion s
  | .postingTake => Sys2Proof.Machine.execPostingTake s
  | .posting => Sys2Proof.Machine.execPosting s
  | .secondPulse => Sys2Proof.Machine.execSecondPulse s
  | .holdoverEntry => Sys2Proof.Machine.execHoldoverEntry s
  | .freeRunTick => Sys2Proof.Machine.execFreeRunTick s
  | .timerCloseBegin n => Sys2Proof.Machine.execTimerCloseBegin n s
  | .recordWritten n => Sys2Proof.Machine.execRecordWritten n s
  | .pendingCloseBegin n => Sys2Proof.Machine.execPendingCloseBegin n s
  | .deferredCloseBegin n => Sys2Proof.Machine.execDeferredCloseBegin n s
  | .lapse => Sys2Proof.Machine.execLapse s
  | .slotTimerExpiry b => Sys2Proof.Machine.execSlotTimerExpiry b s
  | .deferredReclaim b => Sys2Proof.Machine.execDeferredReclaim b s
  | .requestRecord p e => Sys2Proof.Machine.execRequestRecord p e s
  | .openAccount p => Sys2Proof.Machine.execOpenAccount p s
  | .setRights p => Sys2Proof.Machine.execSetRights p s
  | .suspend p => Sys2Proof.Machine.execSuspend p s
  | .resume p => Sys2Proof.Machine.execResume p s
  | .clearBins p => Sys2Proof.Machine.execClearBins p s
  | .closeInterval p => Sys2Proof.Machine.execCloseInterval p s
  | .releaseRecords p => Sys2Proof.Machine.execReleaseRecords p s
  | .setWatch p => Sys2Proof.Machine.execSetWatch p s
  | .teardown p => Sys2Proof.Machine.execTeardown p s
  | .freeze p => Sys2Proof.Machine.execFreeze p s
  | .unfreeze p => Sys2Proof.Machine.execUnfreeze p s
  | .loadDraft p => Sys2Proof.Machine.execLoadDraft p s
  | .propose p => Sys2Proof.Machine.execPropose p s
  | .concur p => Sys2Proof.Machine.execConcur p s
  | .withdraw p => Sys2Proof.Machine.execWithdraw p s
  | .setTime p => Sys2Proof.Machine.execSetTime p s
  | .selectBand p => Sys2Proof.Machine.execSelectBand p s
  | .setPort p => Sys2Proof.Machine.execSetPort p s
  | .draftWrite p e => Sys2Proof.Machine.execDraftWrite p e s
  | .statusRead p e => Sys2Proof.Machine.execStatusRead p e s
  | .pendingSetRead p e => Sys2Proof.Machine.execPendingSetRead p e s
  | .faultRecordRead p e => Sys2Proof.Machine.execFaultRecordRead p e s
  | .accountRead p e => Sys2Proof.Machine.execAccountRead p e s
  | .binsRead p e => Sys2Proof.Machine.execBinsRead p e s
  | .ringWalk p e => Sys2Proof.Machine.execRingWalk p e s
  | .freezeRead p e => Sys2Proof.Machine.execFreezeRead p e s
  | .badFraming p e => Sys2Proof.Machine.execBadFraming p e s
  | .wrongDirectionAccess p e => Sys2Proof.Machine.execWrongDirectionAccess p e s
  | .portReset p => Sys2Proof.Machine.execPortReset p s
  | .supplyFalling => Sys2Proof.Machine.execSupplyFalling s
  | .retentionLoss => Sys2Proof.Machine.execRetentionLoss s
  | .powerOnReset => Sys2Proof.Machine.execPowerOnReset s
  | .absentItemAccess p e => Sys2Proof.Machine.execAbsentItemAccess p e s
  | .portResetDeassertion p => Sys2Proof.Machine.execPortResetDeassertion p s

end Sys2Proof.Machine
end

