-- ==== Sys2Proof/Safety.lean ====
section
/-! DEFINITION. What counts as a safe run: a command answers a next state, and the laws that the manual gives of the
state stand. The laws are stated block by block, each in the terms of its chapter. -/

namespace Sys2Proof

/-- The port, the row and the event of a transaction command; absent for the commands that are no transaction. -/
def Instr.transaction : Instr → Option (Port × TxKind × TxEvent)
  | .requestRecord p e => some (p, .request, e)
  | .draftWrite p e => some (p, .draft, e)
  | .statusRead p e => some (p, .openItem, e)
  | .pendingSetRead p e => some (p, .pendingSet, e)
  | .faultRecordRead p e => some (p, .faultRecord, e)
  | .accountRead p e => some (p, .account, e)
  | .binsRead p e => some (p, .bins, e)
  | .ringWalk p e => some (p, .history, e)
  | .freezeRead p e => some (p, .freeze, e)
  | .badFraming p e => some (p, .badFraming, e)
  | .wrongDirectionAccess p e => some (p, .wrongDirection, e)
  | .absentItemAccess p e => some (p, .absentItem, e)
  | _ => none

/-- The port and the request code of a command at which a block takes a request in flight (10.7, R177). -/
def Instr.request : Instr → Option (Port × Nat)
  | .openAccount p => some (p, 1)
  | .setRights p => some (p, 2)
  | .suspend p => some (p, 3)
  | .resume p => some (p, 4)
  | .clearBins p => some (p, 5)
  | .closeInterval p => some (p, 6)
  | .releaseRecords p => some (p, 7)
  | .setWatch p => some (p, 8)
  | .teardown p => some (p, 9)
  | .freeze p => some (p, 10)
  | .unfreeze p => some (p, 11)
  | .loadDraft p => some (p, 12)
  | .propose p => some (p, 13)
  | .concur p => some (p, 14)
  | .withdraw p => some (p, 15)
  | .setTime p => some (p, 16)
  | .selectBand p => some (p, 17)
  | .setPort p => some (p, 18)
  | _ => none

namespace Machine

/-- A command ran: it answered a next state. -/
def Ran (o : Host.Outcome State Fault Refusal) : Prop := ∃ t, o = .next t

/-- Port `p` has the request `r` in flight, and its code is `code` (R177). -/
def State.inFlight (s : State) (p : Port) (code : Nat) (r : Request) : Prop :=
  (s.port p).inFlight = some r ∧ r.code.toNat = code

/-- The event indication `e` stands set among the edge indications of port `p` (R179). -/
def State.edgeSet (s : State) (p : Port) (e : Event) : Prop := (s.port p).edges.getLsbD e.bit = true

/-! ### Links and windows (chapter 1) -/

/-- The laws of a link receiver: the silence counter (R3), the tally (R6) and the bad-cycle run (R8) keep to their
ranges, and DOWN holds no cycle and no expected sequence number. -/
def Receiver.Law (r : Receiver) : Prop :=
  r.silence ≤ Config.silenceTicks ∧ r.badRun < Config.badRunLimit ∧ (r.state ≠ .locked → r.badRun = 0)
    ∧ (r.state = .down → r.silence = 0 ∧ r.expected = none ∧ r.cycle = none)
    ∧ ∀ c, r.cycle = some c → c.frames ≤ Config.cycleFrames

/-- Both receivers keep their laws. -/
def State.ReceiverLaw (s : State) : Prop := ∀ i, (s.receiver i).Law

/-- The laws of a window assembler (1.4, R9, R10): it is DISABLED exactly while its incomer is disabled; the fill count, the
marker count and the banks keep to their sizes; the filling bank holds a row for each sample of the fill count; and the
time limit is one of the two. -/
def Assembler.Law (a : Assembler) (enabled : Bool) : Prop :=
  (a.state = .disabled ↔ enabled = false) ∧ a.bank0.rows.length ≤ Config.bankDepth
    ∧ a.bank1.rows.length ≤ Config.bankDepth
    ∧ ∀ w, a.state = .opened w → w.fill ≤ Config.bankDepth ∧ w.fill ≤ (a.bank a.filling).rows.length
        ∧ w.markers < Config.windowMarkers
        ∧ (w.limit = Config.limit50 ∨ w.limit = Config.limit60)

/-- The laws of the measurement path: the assemblers', the engine is IDLE only with an empty wait list (R20), no record
waits while none is in posting, and the visit position names an account (R92). -/
def State.PathLaw (s : State) : Prop :=
  (∀ i, (s.assembler i).Law (s.joint.committed.enabled.get i))
    ∧ (s.engine.flight = none → s.waitList = [])
    ∧ (s.posting.current = none → s.posting.waiting = [])
    ∧ ∀ v, s.posting.current = some v → v.position < 24

/-! ### The joint table (chapter 4) -/

/-- The committed table, and the table of a pending proposal, keep to the ranges of R63; the proposer is U or F, and the
lapse timer holds 1 to 300 seconds (R69 to R71). -/
def State.JointLaw (s : State) : Prop :=
  s.joint.committed.valid = true
    ∧ ∀ q, s.joint.proposal = some q →
        q.table.valid = true ∧ q.proposer ≠ .C ∧ 1 ≤ q.remaining ∧ q.remaining ≤ Config.lapseSeconds

/-! ### Accounts (chapters 5 and 6) -/

/-- The ring of an account keeps to 32 records in physical slots 0 to 31, and a WRITING record is its newest (R122). -/
def Ring.Law (r : Ring) : Prop :=
  r.records.length ≤ Config.ringDepth ∧ r.emptySlot < Config.ringDepth
    ∧ ∀ k h, r.records[k]? = some h → h.slot < Config.ringDepth ∧ (h.writing = true → k + 1 = r.records.length)

/-- The laws of an account's record: the ranges of R81 to R83 and R129, the ring's law, and the two marks: a pending
close needs a WRITING record, and a deferred close a full HOLD ring (R90, R115). -/
def Account.Law (a : Account) : Prop :=
  1 ≤ a.bins.length ∧ a.bins.length ≤ Config.maxBins ∧ (a.bins.map (·.code)).Nodup
    ∧ (∀ b ∈ a.bins, b.code ≤ Config.maxCode ∧ b.value ≤ Config.binMax)
    ∧ a.bandMask ≠ 0 ∧ a.period ≤ Config.maxPeriod
    ∧ a.header.merged ≤ Config.count16Max ∧ a.header.interruptions ≤ Config.count16Max
    ∧ (∀ w ∈ a.watches.toList, w.low ≤ w.high ∧ w.bin < a.bins.length)
    ∧ a.ring.Law
    ∧ (a.pendingClose.isSome = true → a.ring.writing = true)
    ∧ (a.deferredClose = true → a.policy = .hold ∧ a.ring.full = true ∧ a.ring.writing = false)

/-- Every OPEN and SUSPENDED account keeps its laws. -/
def State.AccountLaw (s : State) : Prop := ∀ n a, s.account n = some a → a.Law

/-! ### Watches and ports (chapters 7, 8 and 10) -/

/-- What a watch tells, it tells to ports that may know it: every port in a route is qualified for its watch (R130,
R135, R138), and every entry of a port's pending set is of a watch that stands and that the port is qualified for
(R138, R139). -/
def State.RouteLaw (s : State) : Prop :=
  (∀ (n : Nat) (a : Account) (k : Nat) (w : Watch) (p : Port),
      s.account n = some a → a.watches[k]? = some w → w.route.get p = true → a.qualified n w.bin p = true)
    ∧ ∀ (p : Port), ∀ e ∈ (s.port p).pendingSet, ∃ (a : Account) (w : Watch),
        s.account e.account = some a ∧ a.watches[e.watch]? = some w ∧ a.qualified e.account w.bin p = true

/-- The laws of a port: the pending set stands in ascending order with one entry per account and watch and counts to 255
(R136), the exponent is 0 to 6 (R182), the edge indications are those of R179, OVERFLOW stands in a full record alone
(R151), a transaction stands only while chip select is low and is served in the readout of the fall that began it (R170,
R182), and while the port reset input is asserted none is begun (R183). -/
def PortState.Law (ps : PortState) : Prop :=
  ps.pendingSet.Pairwise (fun e f => e.key < f.key)
    ∧ (∀ e ∈ ps.pendingSet, e.account < 24 ∧ e.watch < 4 ∧ e.count ≤ Config.crossingMax
        ∧ e.sinceCount ≤ Config.crossingMax)
    ∧ ps.settings.exponent ≤ Config.maxExponent ∧ ps.edges &&& ~~~edgeMask = 0
    ∧ (ps.fault.overflow = true → ps.fault.content.isSome = true)
    ∧ (∀ t, ps.transaction = some t → ps.select = .low { format := t.format, exponent := t.exponent })
    ∧ (ps.resetAsserted = true → ∀ r, ps.select ≠ .low r)

/-- Every port keeps its laws. -/
def State.PortLaw (s : State) : Prop := ∀ p, (s.port p).Law

/-! ### The freeze unit (chapter 9) -/

/-- The two laws of R155 and the law of R159: each port holds at most one buffer; the waiting list holds at most one
entry per port and none from a port that holds a buffer; a waiter exists only while both buffers are HELD; and the slot
timers hold 0 to 255 seconds. -/
def State.FreezeLaw (s : State) : Prop :=
  (s.freeze.buffer0.holder = none ∨ s.freeze.buffer0.holder ≠ s.freeze.buffer1.holder)
    ∧ (s.freeze.waiting.map (·.port)).Nodup
    ∧ (∀ w ∈ s.freeze.waiting, s.freeze.heldBy w.port = none)
    ∧ (s.freeze.waiting ≠ [] → s.freeze.buffer0.held.isSome = true ∧ s.freeze.buffer1.held.isSome = true)
    ∧ s.freeze.buffer0.timer ≤ 255 ∧ s.freeze.buffer1.timer ≤ 255

end Machine

end Sys2Proof
end

