-- ==== Sys2Proof/Certificates/Slice0/Obligations.lean ====
section
/-! DEFINITION. The statements for the provers, in the order of the manual's chapters. -/

open Sys2Proof Sys2Proof.Machine

/-! ### The machine -/

/-- The model's own queue (DESIGN CHOICE, log entry 1): the command at its front takes effect with the queue's rest behind
it. -/
def Obligations.StepRunsFrontCommand : Prop :=
  ∀ (c : Instr) (rest : List Instr) (s : State), s.pending = c :: rest → step s = exec c { s with pending := rest }

/-- The model's own choice of what an idle step does (DESIGN CHOICE, log entry 4): with no command waiting the part takes the
first event that is due, and with none due a tick passes: the silence counters of ACQUIRING and LOCKED receivers count down
(R3) and the free-run counter counts up to its top (R107). No tick passes while an event is due, so the delays that R24,
R92, R113, R118 and R177 bound are 0 ticks, which is the model's choice too. -/
def Obligations.IdleStepTakesDueEventOrTick : Prop :=
  ∀ s : State, s.pending = [] →
    (∀ c, s.due = some c → step s = exec c s)
      ∧ (s.due = none → ∃ t, step s = .next t ∧ t.now = s.now + 1
          ∧ (∀ i, t.receiver i = if (s.receiver i).state = .down then s.receiver i
              else { s.receiver i with silence := (s.receiver i).silence - 1 })
          ∧ t.time = { s.time with freeRun := if s.time.freeRun < 10000000 then s.time.freeRun + 1 else s.time.freeRun }
          ∧ { t with now := s.now, receivers := s.receivers, time := s.time } = s)

/-- No command stops the part, and none touches the queue of the commands that wait (the queue is the model's own, log
entry 1). -/
def Obligations.EveryCommandAnswersNextState : Prop :=
  ∀ (c : Instr) (s : State), ∃ t, exec c s = .next t ∧ t.pending = s.pending

/-! ### Sample links and window framing -/

/-- The samples of a frame (10.7). -/
def frameRow (bytes : Vector Byte 15) : Row :=
  #v[bytes[2] ++ bytes[3], bytes[4] ++ bytes[5], bytes[6] ++ bytes[7], bytes[8] ++ bytes[9], bytes[10] ++ bytes[11],
    bytes[12] ++ bytes[13]]

/-- The frame flaws the cycle it belongs to: it is a sequence break, or has an overload flag or the front-end fault flag
set (R2, R6). -/
def frameFlaws (r : Receiver) (bytes : Vector Byte 15) : Bool :=
  (match r.expected with
    | some e => e != bytes[0].extractLsb' 4 4
    | none => false) || (bytes[1].extractLsb' 0 6 != 0 || bytes[0].getLsbD 2)

/-- The frame arrives with good CRC and is no marker: the cycle-start flag is clear, or fewer than 150,000 ticks have
passed since the last marker (R5). -/
def ArrivesAsOrdinary (s : State) (i : Incomer) (bytes : Vector Byte 15) : Prop :=
  s.retention.interrupted = false ∧ crc8 (bytes.toList.take 14) = bytes[14]
    ∧ (bytes[0].getLsbD 3 = false ∨ ∃ m, (s.receiver i).lastMarker = some m ∧ s.now < m + 150000)

/-- `b` is assembler `a` after a frame's samples are written to its open window `w` as sample number fill count, or clear
the goodness mark at a fill count of 2048 (R9). -/
def SampleWritten (a b : Assembler) (w : OpenWindow) (row : Row) : Prop :=
  (2048 ≤ w.fill → b = { a with state := .opened { w with good := false } })
    ∧ (w.fill < 2048 → w.fill ≤ (a.bank a.filling).rows.length →
        b.state = .opened { w with fill := w.fill + 1 } ∧ b.filling = a.filling ∧ b.nextWindow = a.nextWindow
          ∧ (b.bank a.filling).held = (a.bank a.filling).held
          ∧ (∀ k : Nat, (b.bank a.filling).rows[k]? = if k = w.fill then some row else (a.bank a.filling).rows[k]?)
          ∧ b.bank (otherBank a.filling) = a.bank (otherBank a.filling))

/-- R1 to R6, R9, R17: a frame after the assertion of supply-falling is not taken; one with bad CRC flaws the open cycle
and does nothing else; and one with good CRC loads the silence counter and the expected sequence number and leaves the
other incomer's receiver and assembler, the accounts, the joint table, the time base and the freeze unit as they are. A
frame that is no marker brings DOWN to ACQUIRING; in an open cycle of fewer than 256 frames it raises the count, and a
sequence break, an overload or front-end fault flag or an early marker flaws the cycle; from 256 frames on it is surplus,
flaws the cycle and is not passed on. Passed on, it is written to an open window, and a window not open discards it. -/
def Obligations.FrameIsCheckedBeforeItIsTaken : Prop :=
  ∀ (i : Incomer) (bytes : Vector Byte 15) (s : State),
    (s.retention.interrupted = true → exec (.frameArrival i bytes) s = .next s)
      ∧ (s.retention.interrupted = false → crc8 (bytes.toList.take 14) ≠ bytes[14] →
          exec (.frameArrival i bytes) s = .next (s.setReceiver i
            { s.receiver i with cycle := (s.receiver i).cycle.map fun c => { c with flawed := true } }))
      ∧ (s.retention.interrupted = false → crc8 (bytes.toList.take 14) = bytes[14] →
          ∃ t, exec (.frameArrival i bytes) s = .next t
            ∧ (t.receiver i).silence = 5000 ∧ (t.receiver i).expected = some (bytes[0].extractLsb' 4 4 + 1)
            ∧ (t.receiver i).state ≠ .down
            ∧ (∀ k, k ≠ i → t.receiver k = s.receiver k ∧ t.assembler k = s.assembler k)
            ∧ t.accounts = s.accounts ∧ t.joint = s.joint ∧ t.time = s.time ∧ t.freeze = s.freeze
            ∧ t.retention = s.retention)
      ∧ (ArrivesAsOrdinary s i bytes → ∀ surplus : Prop,
          surplus = (∃ c, (s.receiver i).cycle = some c ∧ 256 ≤ c.frames) →
          ∃ t, exec (.frameArrival i bytes) s = .next t
            ∧ t = (s.setReceiver i { s.receiver i with
                state := if (s.receiver i).state = .down then .acquiring else (s.receiver i).state
                silence := 5000
                expected := some (bytes[0].extractLsb' 4 4 + 1)
                cycle := (s.receiver i).cycle.map fun c =>
                  if c.frames < 256 then
                    { c with frames := c.frames + 1
                             flawed := c.flawed || frameFlaws (s.receiver i) bytes || bytes[0].getLsbD 3 }
                  else { c with flawed := true } }).setAssembler i (t.assembler i)
            ∧ (surplus → t.assembler i = s.assembler i)
            ∧ (¬surplus → (∀ w, (s.assembler i).state = .opened w →
                  SampleWritten (s.assembler i) (t.assembler i) w (frameRow bytes))
                ∧ ((∀ w, (s.assembler i).state ≠ .opened w) → t.assembler i = s.assembler i)))

/-- The frame arrives as a marker: good CRC, the cycle-start flag set, and 150,000 ticks or more after the last marker
or the first since start (R5). -/
def ArrivesAsMarker (s : State) (i : Incomer) (bytes : Vector Byte 15) : Prop :=
  s.retention.interrupted = false ∧ crc8 (bytes.toList.take 14) = bytes[14] ∧ bytes[0].getLsbD 3 = true
    ∧ ∀ m, (s.receiver i).lastMarker = some m → m + 150000 ≤ s.now

/-- The four tests of a good cycle at a marker of tick `now` (R7). -/
def GoodCycle (c : CycleTally) (now : Nat) : Prop :=
  c.openedIn = .locked ∧ c.frames = 256 ∧ c.flawed = false ∧ c.start + 150000 ≤ now ∧ now ≤ c.start + 225000

/-- Tests 2, 3 and 4 of R7 alone. -/
def SoundCycle (c : CycleTally) (now : Nat) : Prop :=
  c.frames = 256 ∧ c.flawed = false ∧ c.start + 150000 ≤ now ∧ now ≤ c.start + 225000

/-- Receiver `q` is `r` after a marker of tick `now` (R2 to R8). -/
def MarkerTaken (r q : Receiver) (now : Nat) (bytes : Vector Byte 15) : Prop :=
  q.silence = 5000 ∧ q.expected = some (bytes[0].extractLsb' 4 4 + 1) ∧ q.lastMarker = some now
    ∧ (r.cycle = none → q.state = (if r.state = .down then .acquiring else r.state) ∧ q.badRun = r.badRun)
    ∧ (∀ c, r.cycle = some c → r.state = .locked →
        (GoodCycle c now → q.state = .locked ∧ q.badRun = 0)
          ∧ (¬GoodCycle c now → r.badRun + 1 < 3 → q.state = .locked ∧ q.badRun = r.badRun + 1)
          ∧ (¬GoodCycle c now → 3 ≤ r.badRun + 1 → q.state = .acquiring ∧ q.badRun = 0))
    ∧ (∀ c, r.cycle = some c → r.state ≠ .locked →
        (SoundCycle c now → q.state = .locked ∧ q.badRun = 0)
          ∧ (¬SoundCycle c now → q.state = .acquiring ∧ q.badRun = 0))
    ∧ q.cycle = some { start := now, openedIn := q.state, frames := 1, flawed := frameFlaws r bytes }

/-- The time limit that a window latches at its opening (R10). -/
def latchedLimit (s : State) : Nat := if s.joint.committed.frequency = 60 then 1666670 else 2000000

/-- The window that a marker at tick `start` opens or finds at its start tick, before the marker is written (R10). -/
def alignedWindow (s : State) (start : Nat) : OpenWindow :=
  { start := start, limit := latchedLimit s, fill := 0, markers := 0, aligned := true, good := true }

/-- `t` is `s` with the receiver of `i` as `t` has it and the frame's samples written to the open window `w` of `i`. -/
def MarkerWritten (s t : State) (i : Incomer) (w : OpenWindow) (bytes : Vector Byte 15) : Prop :=
  SampleWritten (s.assembler i) (t.assembler i) w (frameRow bytes)
    ∧ t = (s.setReceiver i (t.receiver i)).setAssembler i (t.assembler i)

/-- `y` is port state `x` with the edge indication `e` raised (R179, R180). -/
def PortRaised (x y : PortState) (e : Event) : Prop :=
  y = { x with edges := y.edges, edgesSince := y.edgesSince }
    ∧ ∀ k, y.edges.getLsbD k = (x.edges.getLsbD k || decide (k = e.bit))
        ∧ y.edgesSince.getLsbD k = (x.edgesSince.getLsbD k || decide (k = e.bit))

/-- The posting unit after the arrival of record `r`: taken at once when no record is in posting and none waits, else at
the tail of the list (R92). -/
def postingWith (u : Posting) (r : ResultRecord) : Posting :=
  match u.current, u.waiting with
  | some v, ws => { waiting := ws ++ [r], current := some v }
  | none, [] => { waiting := [], current := some { record := r, position := 0 } }
  | none, q :: ws => { waiting := ws ++ [r], current := some { record := q, position := 0 } }

/-- `t` is `s` after the invalid entry `e` has left with `rest` behind it (R22, R51, R52, R54, R55, R57 to R60, R92): the
invalid run rises; the result is SUBSTITUTED from a source of the committed epoch at a run of 8 or less, each increment
scaled by T over T_source, and a GAP otherwise. -/
def InvalidLeft (s t : State) (e : WaitEntry) (rest : List WaitEntry) : Prop :=
  ∃ r run, run = min 65535 ((s.calc e.incomer).invalidRun + 1)
    ∧ r.incomer = e.incomer ∧ r.window = e.window ∧ r.epoch = s.joint.epoch ∧ r.band = e.band ∧ r.cause = e.cause
    ∧ r.ticks = e.ticks
    ∧ (∀ src, (s.calc e.incomer).source = some src → src.epoch = s.joint.epoch → run ≤ 8 →
        r.limited = src.limited ∧ r.figures = .substituted (src.increments.map fun x =>
          (roundDiv ((x * e.ticks : Nat) : Int) (src.ticks : Nat)).toNat))
    ∧ ((∀ src, (s.calc e.incomer).source = some src → src.epoch = s.joint.epoch → 8 < run) →
        r.limited = false ∧ r.figures = .gap)
    ∧ t.calc e.incomer = { s.calc e.incomer with invalidRun := run, latest := some r }
    ∧ (∀ k, k ≠ e.incomer → t.calc k = s.calc k)
    ∧ t.posting = postingWith s.posting r
    ∧ (∀ p, PortRaised (s.port p) (t.port p) .result)
    ∧ t = { s with waitList := rest, calculator := t.calculator, posting := t.posting, ports := t.ports }

/-- `t` is `s` after an IDLE engine has taken what it can of the given wait list: invalid entries leave one after another,
and the first valid one begins with a snapshot of the committed table (R20 to R22, R25). -/
def EngineTakes : List WaitEntry → State → State → Prop
  | [], s, t => t = s
  | e :: rest, s, t =>
    if e.bank.isSome then
      t = { s with
        waitList := rest
        engine := { flight := some { entry := e, snapshot := s.joint.committed, epoch := s.joint.epoch },
                    limited := false } }
    else ∃ u, InvalidLeft s u e rest ∧ EngineTakes rest u t

/-- `t` is `s` after the engine has taken what it can of its wait list; with a window in flight it takes nothing (R20). -/
def EngineSettles (s t : State) : Prop :=
  (s.engine.flight ≠ none → t = s) ∧ (s.engine.flight = none → EngineTakes s.waitList s t)

/-- `s` with the open window `w` of `i` closed at `tick`: stamped, on the wait list with bank `v` when it is valid, that
bank held and filling switched, and the next window open at the tick (R10 to R15). -/
def windowClosed (s : State) (i : Incomer) (w : OpenWindow) (cause : WindowCause) (tick : Nat) (v : Option (Fin 2)) :
    State :=
  let a := s.assembler i
  let k := match v with
    | some b => { a.setBank b { a.bank b with held := true } with filling := otherBank b }
    | none => a
  { s.setAssembler i { k with
      nextWindow := a.nextWindow + 1
      state := .opened { start := tick, limit := latchedLimit s, fill := 0, markers := 0,
                         aligned := cause == .markers, good := cause == .markers } } with
    waitList := s.waitList ++
      [{ incomer := i, window := a.nextWindow, ticks := tick - w.start, cause := cause, band := s.time.band, bank := v }] }

/-- R2 to R13: a marker judges the open cycle and opens the next in the resulting state. In LOCKED the bad-cycle run
follows the verdict, and the third bad cycle in a row brings ACQUIRING; in ACQUIRING a cycle that meets tests 2 to 4
brings LOCKED; a first frame brings DOWN to ACQUIRING. DISABLED discards the marker's samples; AWAITING_MARKER opens an
aligned window with them; in OPEN a marker at the start tick is sample 0 and makes the window aligned, and a later one
below the eighth is counted, keeps the goodness mark only with a good verdict, and is written. One below the eighth at the
tick of the time limit meets the window that opens after that close, aligned (the order is the model's reading, log
entry 34). -/
def Obligations.MarkerInLockedJudgesTheCycle : Prop :=
  ∀ (i : Incomer) (bytes : Vector Byte 15) (s : State), ArrivesAsMarker s i bytes →
    ∃ t, exec (.frameArrival i bytes) s = .next t ∧ MarkerTaken (s.receiver i) (t.receiver i) s.now bytes
      ∧ ((s.assembler i).state = .disabled → t = s.setReceiver i (t.receiver i))
      ∧ ((s.assembler i).state = .awaiting → MarkerWritten s t i (alignedWindow s s.now) bytes)
      ∧ ∀ w, (s.assembler i).state = .opened w →
          (w.start = s.now → MarkerWritten s t i { w with aligned := true, good := true } bytes)
            ∧ (w.start ≠ s.now → w.markers + 1 < 8 → w.start + w.limit ≠ s.now →
                ∃ g, (g = true ↔ w.good = true ∧ ∃ c, (s.receiver i).cycle = some c ∧ GoodCycle c s.now)
                  ∧ MarkerWritten s t i { w with markers := w.markers + 1, good := g } bytes)
            ∧ (w.start ≠ s.now → w.markers + 1 < 8 → w.start + w.limit = s.now →
                ∃ m, EngineSettles (windowClosed (s.setReceiver i (t.receiver i)) i w .timeLimit s.now none) m
                  ∧ MarkerWritten m t i (alignedWindow s s.now) bytes)

/-- R10, R11, R13 to R15, R20 to R22: the eighth counted marker closes the window, which is stamped and joins the wait
list at its tail, with its bank when it is valid; an IDLE engine takes what it can at once, so that a valid window begins
and an invalid one leaves, and a busy one takes nothing; the next window opens on the marker, which is its sample 0. -/
def Obligations.EighthMarkerClosesTheWindow : Prop :=
  ∀ (i : Incomer) (bytes : Vector Byte 15) (s : State) (w : OpenWindow) (v : Option (Fin 2)), ArrivesAsMarker s i bytes →
    (s.assembler i).state = .opened w → w.start < s.now → w.markers = 7 →
    ∀ valid : Prop, valid = (w.aligned = true ∧ w.good = true
        ∧ ∃ c, (s.receiver i).cycle = some c ∧ GoodCycle c s.now) →
      (valid → v = some (s.assembler i).filling) → (¬valid → v = none) →
      ∃ t m, exec (.frameArrival i bytes) s = .next t
        ∧ EngineSettles (windowClosed (s.setReceiver i (t.receiver i)) i w .markers s.now v) m
        ∧ MarkerWritten m t i (alignedWindow s s.now) bytes

/-- R3, R5, R12 to R15, R20 to R22: at its expiry the silence counter brings the receiver DOWN without a verdict, and the
tick of the last marker stays. At its time limit the open window closes with T equal to the limit, joins the wait list as a
verdict only, keeps its bank filling, and the next window opens at that tick, not aligned; a busy engine leaves the entry
on the list, and an IDLE one takes what it can at once. -/
def Obligations.SilenceAndTimeLimitTakeEffect : Prop :=
  ∀ (i : Incomer) (s : State),
    ((s.receiver i).state ≠ .down → (s.receiver i).silence = 0 → exec (.silenceExpiry i) s = .next (s.setReceiver i
        { state := .down, silence := 0, expected := none, lastMarker := (s.receiver i).lastMarker, cycle := none,
          badRun := 0 }))
      ∧ ∀ w : OpenWindow, (s.assembler i).state = .opened w → w.start + w.limit ≤ s.now →
          ∃ t, exec (.timeLimitClose i) s = .next t
            ∧ EngineSettles (windowClosed s i w .timeLimit (w.start + w.limit) none) t

/-- R3, R5 to R8: the laws of the link receivers hold after every step that starts with them. -/
def Obligations.StepKeepsReceiverLaw : Prop :=
  ∀ s t : State, s.ReceiverLaw → step s = .next t → t.ReceiverLaw

/-! ### The harmonic transform and window results -/

/-- R20, R21, R92: an IDLE engine takes a valid head entry with a snapshot of the committed table, and an idle posting
unit takes the record at the head of its list with visit position 0. -/
def Obligations.HeadEntriesAreTaken : Prop :=
  (∀ (s : State) (e : WaitEntry) (rest : List WaitEntry), s.engine.flight = none → s.waitList = e :: rest →
      e.bank.isSome = true →
      exec .transformBegin s = .next { s with
        waitList := rest
        engine := { flight := some { entry := e, snapshot := s.joint.committed, epoch := s.joint.epoch },
                    limited := false } })
    ∧ ∀ (s : State) (r : ResultRecord) (rest : List ResultRecord), s.posting.current = none →
        s.posting.waiting = r :: rest →
        exec .postingTake s = .next { s with
          posting := { waiting := rest, current := some { record := r, position := 0 } } }

/-- R20, R22, R51, R52, R54, R55, R57 to R60, R92: an invalid entry leaves with the committed epoch and raises the invalid
run; its result is SUBSTITUTED from a source of that epoch at a run of 8 or less, each increment scaled by T over T_source,
and a GAP otherwise; the result is the latest, is taken into posting or joins the tail of its list, and RESULT is raised to
every port. The engine then takes what stands behind the entry. -/
def Obligations.InvalidEntryIsSubstitutedOrGap : Prop :=
  ∀ (s : State) (e : WaitEntry) (rest : List WaitEntry), s.engine.flight = none → s.waitList = e :: rest →
    e.bank = none →
    ∃ t u, exec .invalidEntryLeave s = .next t ∧ InvalidLeft s u e rest ∧ EngineTakes rest u t

/-- R20 to R23, R25, R51 to R53, R57 to R60, R92: a completion forms the VALID record of the window in flight from its
snapshot and bank, makes it the latest result and the substitution source, ends the invalid run, frees the bank, and hands
the record to the posting unit with RESULT raised to every port; the engine, IDLE with no snapshot, then takes what it can
of the wait list at the same event. -/
def Obligations.CompletionFormsTheValidRecord : Prop :=
  ∀ (s : State) (f : Flight) (b : Fin 2), s.engine.flight = some f → f.entry.bank = some b →
    ∃ t u, exec .transformCompletion s = .next t ∧ EngineTakes s.waitList u t ∧ u.engine.flight = none
      ∧ (u.assembler f.entry.incomer) = (s.assembler f.entry.incomer).setBank b
          { held := false, rows := ((s.assembler f.entry.incomer).bank b).rows }
      ∧ (∀ k, k ≠ f.entry.incomer → u.assembler k = s.assembler k ∧ u.calc k = s.calc k)
      ∧ (u.calc f.entry.incomer).invalidRun = 0
      ∧ (∀ zs, zs = phasorSet f.snapshot f.entry.incomer ((s.assembler f.entry.incomer).bank b).rows →
          ∀ incs, incs = increments f.snapshot f.entry.incomer f.entry.band f.entry.ticks zs.1 →
          ∀ r : ResultRecord, r =
              { incomer := f.entry.incomer, window := f.entry.window, epoch := f.epoch, band := f.entry.band,
                cause := f.entry.cause, ticks := f.entry.ticks, limited := zs.2,
                figures := .valid incs (rawFigures f.snapshot zs.1) } →
          (u.calc f.entry.incomer).source =
              some { increments := incs, ticks := f.entry.ticks, epoch := f.epoch, limited := zs.2 }
            ∧ (u.calc f.entry.incomer).latest = some r ∧ u.posting = postingWith s.posting r)
      ∧ (∀ p, PortRaised (s.port p) (u.port p) .result)
      ∧ u = { s with engine := u.engine, assemblers := u.assemblers, calculator := u.calculator, posting := u.posting,
                     ports := u.ports }

/-- R29, R32, R34, R36, R39, R41 to R43, R50: every component of a phasor set lies within ±8,388,607, and every
increment of a VALID result of a window of at most 2,000,000 ticks lies below 2^60. -/
def Obligations.PhasorsAndIncrementsKeepTheirBounds : Prop :=
  ∀ (t : Table) (i : Incomer) (rows : List Row),
    (∀ zs ∈ (phasorSet t i rows).1, ∀ z ∈ zs, z.re.natAbs ≤ 8388607 ∧ z.im.natAbs ≤ 8388607)
      ∧ ∀ (band : BitVec 3) (ticks : Nat), ticks ≤ 2000000 →
          ∀ x ∈ increments t i band ticks (phasorSet t i rows).1, x < 2 ^ 60

/-- R45, with P and Q the window energies of the fundamental phase sums. -/
def Obligations.QuadrantIncrementsFollowTheSigns : Prop :=
  ∀ (t : Table) (i : Incomer) (band : BitVec 3) (ticks : Nat) (zs : List (List Phasor)) (p q : Int),
    p = windowEnergy (t.weight.get i) ticks ((phaseSums activePower zs).getD 0 0) →
    q = windowEnergy (t.weight.get i) ticks ((phaseSums reactivePower zs).getD 0 0) →
    ∀ incs, incs = increments t i band ticks zs →
      (0 ≤ p → 0 < q → incs[2]? = some q.natAbs ∧ incs[3]? = some 0 ∧ incs[4]? = some 0 ∧ incs[5]? = some 0)
        ∧ (p < 0 → 0 < q → incs[2]? = some 0 ∧ incs[3]? = some q.natAbs ∧ incs[4]? = some 0 ∧ incs[5]? = some 0)
        ∧ (p < 0 → q < 0 → incs[2]? = some 0 ∧ incs[3]? = some 0 ∧ incs[4]? = some q.natAbs ∧ incs[5]? = some 0)
        ∧ (0 ≤ p → q < 0 → incs[2]? = some 0 ∧ incs[3]? = some 0 ∧ incs[4]? = some 0 ∧ incs[5]? = some q.natAbs)
        ∧ (q = 0 → incs[2]? = some 0 ∧ incs[3]? = some 0 ∧ incs[4]? = some 0 ∧ incs[5]? = some 0)

/-- R31: a channel with G = 32768 and d = 0 comes through both steps unchanged and sets no LIMITED of its own. -/
def Obligations.UnityCalibrationChangesNothing : Prop :=
  ∀ (h : Nat) (z : Phasor) (l : Bool), z.re.natAbs ≤ 8388607 → z.im.natAbs ≤ 8388607 →
    calibrate 32768 0 h (z, l) = (z, l)

/-- R9, R10, R16, R20, R92: the laws of the measurement path hold after every step that starts with them: an assembler is
DISABLED exactly while its incomer is disabled, the engine is never IDLE with an entry on the list, and no record waits
while none is in posting. -/
def Obligations.StepKeepsPathLaw : Prop :=
  ∀ s t : State, s.PathLaw → step s = .next t → t.PathLaw

/-! ### The joint table and two-party change -/

/-- R63 to R65, R70, R73, R74, R189, R190: no command changes the committed table or its epoch but an accepted CONCUR,
from the one of ports U and F that did not propose and with the pending serial, which commits the proposed table and
raises the epoch by one, and a cold start, which takes the default table at epoch 0. -/
def Obligations.OnlyTwoPartyCommitChangesTheTable : Prop :=
  ∀ (c : Instr) (s t : State), exec c s = .next t →
    (t.joint.committed = s.joint.committed ∧ t.joint.epoch = s.joint.epoch)
      ∨ (∃ p q r, c = .concur p ∧ p ≠ .C ∧ s.joint.proposal = some q ∧ q.proposer ≠ p ∧ s.inFlight p 14 r
          ∧ r.word 0 = q.serial ∧ t.joint.committed = q.table ∧ t.joint.epoch = s.joint.epoch + 1
          ∧ t.joint.proposal = none)
      ∨ (c = .powerOnReset ∧ s.retention.valid = false ∧ t.joint.committed = Table.default ∧ t.joint.epoch = 0)

/-- R67, R68, R79, R170, R172, R173: LOAD_DRAFT copies the committed table and epoch into the sender's draft and changes
nothing else of the unit, and port C is refused. A data word of a draft write takes effect in the port's own draft at the
pointer at once, with 0000h shifted out; a word past the item's 62 words is ignored and sets OVERRUN. -/
def Obligations.DraftsAreLoadedAndWritten : Prop :=
  (∀ (s : State) (p : Port) (r : Request), s.inFlight p 12 r →
      (p = .U → exec (.loadDraft p) s = .next
          ((s.setJoint { s.joint with draftU := { table := s.joint.committed, baseEpoch := s.joint.epoch } }).respond
            p r.code .done))
        ∧ (p = .F → exec (.loadDraft p) s = .next
            ((s.setJoint { s.joint with draftF := { table := s.joint.committed, baseEpoch := s.joint.epoch } }).respond
              p r.code .done))
        ∧ (p = .C → exec (.loadDraft p) s = .next (s.respond p r.code .notPermitted)))
    ∧ ∀ (s : State) (p : Port) (x : Transaction) (w : Word), (s.port p).resetAsserted = false →
        (s.port p).transaction = some x → x.kind = .draft →
        (x.offset = none → exec (.draftWrite p (.word w)) s = .next (s.setPort p { s.port p with
            transaction := some { x with offset := some w, pointer := w.toNat }, dataOut := 0 }))
          ∧ ∀ o d y, x.offset = some o → s.joint.draft p = some d →
              y = { x with pointer := x.pointer + 1, moved := x.moved + 1 } →
              (x.pointer < 62 → exec (.draftWrite p (.word w)) s = .next
                  ((s.setJoint (s.joint.setDraft p { d with table := writeTable d.table x.pointer w })).setPort p
                    { s.port p with transaction := some y, dataOut := 0 }))
                ∧ (62 ≤ x.pointer → exec (.draftWrite p (.word w)) s = .next (s.setPort p
                    { s.port p with transaction := some y, dataOut := 0, overrun := true, overrunSince := true }))

/-- R69, R70, R79: PROPOSE is refused to port C, with BUSY while a proposal is pending, and with INVALID for a draft whose
frequency, class map or slot length is out of range; otherwise it makes the proposal with the next serial and 300
seconds, and PROPOSAL stands at the other of ports U and F. -/
def Obligations.ProposeOffersTheDraft : Prop :=
  ∀ (s : State) (p : Port) (r : Request), s.inFlight p 13 r →
    (p = .C → exec (.propose p) s = .next (s.respond p r.code .notPermitted))
      ∧ ∀ d, s.joint.draft p = some d →
          (∀ q, s.joint.proposal = some q → exec (.propose p) s = .next (s.respond p r.code .busy))
            ∧ (s.joint.proposal = none →
                (((d.table.frequency = 50 ∨ d.table.frequency = 60)
                    ∧ (∀ k ∈ d.table.classMap.toList, k.toNat < 8 ∨ k = 15) ∧ d.table.slotLength ≠ 0) →
                  ∃ t, exec (.propose p) s = .next t
                    ∧ t = (s.setJoint { s.joint with
                        serialCounter := s.joint.serialCounter + 1
                        proposal := some { table := d.table, proposer := p, serial := s.joint.serialCounter + 1,
                                           remaining := 300 } }).respond p r.code .done
                    ∧ ∀ k, t.proposalLevel k = true ↔ k ≠ p ∧ k ≠ .C)
                ∧ (¬((d.table.frequency = 50 ∨ d.table.frequency = 60)
                    ∧ (∀ k ∈ d.table.classMap.toList, k.toNat < 8 ∨ k = 15) ∧ d.table.slotLength ≠ 0) →
                  exec (.propose p) s = .next (s.respond p r.code .invalid)))

/-- R16, R52, R53, R73 to R75, R79: CONCUR is refused to port C, with NO_PROPOSAL, to the proposer and with STALE, in
that order; otherwise the table commits: both substitution sources are cleared, COMMITTED is raised to every port, each
incomer whose enabled setting changes is enabled or disabled with its run at 0, and the other keeps its assembler. -/
def Obligations.ConcurCommitsTheProposal : Prop :=
  ∀ (s : State) (p : Port) (r : Request), s.inFlight p 14 r →
    (p = .C → exec (.concur p) s = .next (s.respond p r.code .notPermitted))
      ∧ (p ≠ .C → s.joint.proposal = none → exec (.concur p) s = .next (s.respond p r.code .noProposal))
      ∧ ∀ q, s.joint.proposal = some q → p ≠ .C →
          (p = q.proposer → exec (.concur p) s = .next (s.respond p r.code .notPermitted))
            ∧ (p ≠ q.proposer → r.word 0 ≠ q.serial → exec (.concur p) s = .next (s.respond p r.code .stale))
            ∧ (p ≠ q.proposer → r.word 0 = q.serial →
                ∃ t, exec (.concur p) s = .next t ∧ (t.port p).slot = .answered r.code .done
                  ∧ t.joint = { s.joint with committed := q.table, epoch := s.joint.epoch + 1, proposal := none }
                  ∧ (∀ k, t.edgeSet k .committed) ∧ (∀ i, (t.calc i).source = none)
                  ∧ (∀ i, q.table.enabled.get i = s.joint.committed.enabled.get i →
                      t.assembler i = s.assembler i ∧ (t.calc i).invalidRun = (s.calc i).invalidRun
                        ∧ ∀ e ∈ s.waitList, e.incomer = i → e ∈ t.waitList)
                  ∧ (∀ i, s.joint.committed.enabled.get i = false → q.table.enabled.get i = true →
                      (t.assembler i).state = .awaiting ∧ (t.assembler i).nextWindow = 0 ∧ (t.calc i).invalidRun = 0)
                  ∧ (∀ i, s.joint.committed.enabled.get i = true → q.table.enabled.get i = false →
                      (t.assembler i).state = .disabled ∧ (t.calc i).invalidRun = 0
                        ∧ (∀ e ∈ t.waitList, e.incomer ≠ i)
                        ∧ ∀ e ∈ s.waitList, ∀ b, e.incomer = i → e.bank = some b →
                            ((t.assembler i).bank b).held = false)
                  ∧ t.engine = s.engine ∧ t.accounts = s.accounts ∧ t.time = s.time ∧ t.freeze = s.freeze
                  ∧ t.receivers = s.receivers)

/-- R71, R72, R76, R79: WITHDRAW ends the proposal of its proposer and is refused to port C, with NO_PROPOSAL, and to a
port that is not the proposer, in that order; the LAPSE of a timer at 0 ends the proposal and raises LAPSED to ports U
and F (a LAPSE that stands alone is the model's reading, log entry 8). Neither changes the table, the epoch, the serial counter or a draft. -/
def Obligations.WithdrawAndLapseEndTheProposal : Prop :=
  (∀ (s : State) (p : Port) (r : Request), s.inFlight p 15 r →
      (p = .C → exec (.withdraw p) s = .next (s.respond p r.code .notPermitted))
        ∧ (p ≠ .C → s.joint.proposal = none → exec (.withdraw p) s = .next (s.respond p r.code .noProposal))
        ∧ ∀ q, s.joint.proposal = some q → p ≠ .C →
            (p ≠ q.proposer → exec (.withdraw p) s = .next (s.respond p r.code .notPermitted))
              ∧ (p = q.proposer → exec (.withdraw p) s = .next
                  ((s.setJoint { s.joint with proposal := none }).respond p r.code .done)))
    ∧ ∀ (s : State) (q : Proposal), s.joint.proposal = some q → q.remaining = 0 →
        ∃ t, exec .lapse s = .next t ∧ t.joint = { s.joint with proposal := none }
          ∧ t.edgeSet .U .lapsed ∧ t.edgeSet .F .lapsed ∧ t.port .C = s.port .C
          ∧ t.accounts = s.accounts ∧ t.time = s.time ∧ t.freeze = s.freeze

/-- R63, R69 to R71: the laws of the joint table unit hold after every step that starts with them. -/
def Obligations.StepKeepsJointLaw : Prop :=
  ∀ s t : State, s.JointLaw → step s = .next t → t.JointLaw

/-! ### Accounts and posting -/

/-- The watch after an evaluation at measure `m` (R134). -/
def watchAt (w : Watch) (m : Nat) : Watch := { w with above := if w.above then decide (w.low < m) else decide (w.high ≤ m) }

/-- `t` is `s` after an event of account `n` that puts `b` in the place of `a`: no other account changes, and each change
of a watch's state stands in the pending sets of the ports of its route as the latest crossing, with no other entry
touched (R134 to R136). -/
def AccountBecomes (s t : State) (n : Nat) (a b : Account) : Prop :=
  t = { s with accounts := t.accounts, ports := t.ports }
    ∧ t.account n = some b ∧ (∀ m, m ≠ n → t.account m = s.account m)
    ∧ ∀ p, t.port p = { s.port p with pendingSet := (t.port p).pendingSet }
        ∧ (∀ (k : Nat) (w v : Watch), a.watches[k]? = some w → b.watches[k]? = some v → v.above ≠ w.above →
            w.route.get p = true →
            ∃ e ∈ (t.port p).pendingSet, e.account = n ∧ e.watch = k
              ∧ e.latest = if v.above then Crossing.rise else Crossing.fall)
        ∧ ∀ e : PendingEntry, (∀ w v : Watch, e.account = n → a.watches[e.watch]? = some w →
              b.watches[e.watch]? = some v → v.above ≠ w.above → w.route.get p = false) →
            (e ∈ (t.port p).pendingSet ↔ e ∈ (s.port p).pendingSet)

/-- The physical slot that the next record of a ring takes (R122). -/
def slotAfter (r : Ring) : Nat :=
  match r.records.getLast? with
  | some h => (h.slot + 1) % 32
  | none => r.emptySlot

/-- What a close carried out at its begin makes of the account (R109, R116, R117, R121, R122, R133, R186): `b` is `a` after the
close with the given cause at state `s`. -/
def CarriedOut (s : State) (a : Account) (cause : CloseCause) (b : Account) : Prop :=
  b.ring = { a.ring with
      records := (if 32 ≤ a.ring.records.length then a.ring.records.drop 1 else a.ring.records) ++
        [{ writing := true, slot := slotAfter a.ring, cause := cause, endSecond := s.time.second, header := a.header,
           values := a.bins.map (·.value) }] }
    ∧ b.header = {
        sequence := a.header.sequence + 1, startSecond := s.time.second, epochs := none,
        tally := { a := Tally.zero, b := Tally.zero }, merged := 0,
        interruptions := if s.retention.interrupted then 1 else 0, limited := false, pinnedAny := false,
        cleared := false, freeRunning := s.time.state != .tracking, timeSet := false,
        timeSuspect := a.header.timeSuspect, epochChanged := false }
    ∧ b.bins = (if a.mode = .reset then a.bins.map (fun x => { x with value := 0, pinned := false }) else a.bins)
    ∧ (∀ (k : Nat) (w : Watch), a.watches[k]? = some w → b.watches[k]? = some
        (if a.mode = .reset ∧ w.enabled = true ∧ w.measure = .total ∧ w.bin < a.bins.length then watchAt w 0 else w))
    ∧ b = { a with ring := b.ring, header := b.header, bins := b.bins, lastBand := none, watches := b.watches }

/-- `b` is `a` after a close begin with a cause at state `s` (R115 to R117, R119, R120): while a record is WRITING it sets
the pending mark with its cause or raises the merged-closure count; in a full HOLD ring it raises that count and sets the
deferred mark; otherwise, a full WRAP ring included, it is carried out. -/
def CloseBegun (s : State) (a : Account) (cause : CloseCause) (b : Account) : Prop :=
  (a.ring.writing = true → a.pendingClose = none → b = { a with pendingClose := some cause })
    ∧ (a.ring.writing = true → a.pendingClose ≠ none →
        b = { a with header := { a.header with merged := min 65535 (a.header.merged + 1) } })
    ∧ (a.ring.writing = false → a.policy = .hold → 32 ≤ a.ring.records.length →
        b = { a with header := { a.header with merged := min 65535 (a.header.merged + 1) }, deferredClose := true })
    ∧ (a.ring.writing = false → (a.policy = .wrap ∨ a.ring.records.length < 32) → CarriedOut s a cause b)

/-- The record applies to the account (R93). -/
def Applies (a : Account) (r : ResultRecord) : Prop :=
  (a.scope = .site ∨ (a.scope = .A ∧ r.incomer = .A) ∨ (a.scope = .B ∧ r.incomer = .B))
    ∧ a.bandMask.getLsbD r.band.toNat = true

/-- The band-change check of a posting finds another band (R94). -/
def BandChanges (a : Account) (r : ResultRecord) : Prop :=
  a.closeOnBandChange = true ∧ ∃ l, a.lastBand = some l ∧ l ≠ r.band

/-- The posting unit after the visit `v`: the position rises, and after account 23 the record leaves and the next one is
taken (R92). -/
def postingAfter (u : Posting) (v : Visit) : Posting :=
  if v.position < 23 then { u with current := some { v with position := v.position + 1 } }
  else match u.waiting with
    | [] => { waiting := [], current := none }
    | r :: rest => { waiting := rest, current := some { record := r, position := 0 } }

/-- `b` is the OPEN account `a` after the booking of record `r` (R83, R96 to R98) and the evaluation of its watches: at a
VALID or SUBSTITUTED booking of every enabled watch, the RATE ones at the amount added and T, and at a GAP of the TOTAL
ones alone (R131 to R134). -/
def BookedInto (r : ResultRecord) (a b : Account) : Prop :=
  b.bins = a.bins.map (fun x => match r.figures with
      | .gap => x
      | .valid incs _ => { x with
          value := min 9223372036854775807 (x.value + incs.getD x.code 0),
          pinned := x.pinned || decide (9223372036854775807 < x.value + incs.getD x.code 0) }
      | .substituted incs => { x with
          value := min 9223372036854775807 (x.value + incs.getD x.code 0),
          pinned := x.pinned || decide (9223372036854775807 < x.value + incs.getD x.code 0) })
    ∧ b.lastBand = some r.band
    ∧ b.header = { a.header with
        tally := a.header.tally.set r.incomer (b.header.tally.get r.incomer)
        epochs := some ((a.header.epochs.map (·.1)).getD r.epoch, r.epoch)
        epochChanged := a.header.epochChanged || (a.header.epochs.map (·.1 != r.epoch)).getD false
        limited := a.header.limited || r.limited
        pinnedAny := a.header.pinnedAny || b.bins.any (·.pinned) }
    ∧ (∀ x y, x = a.header.tally.get r.incomer → y = b.header.tally.get r.incomer →
        y.windows = some ((x.windows.map (·.1)).getD r.window, r.window) ∧ y.skipped = x.skipped
          ∧ (y.valid, y.substituted, y.gap) = match r.figures with
            | .valid _ _ => (min 4294967295 (x.valid + 1), x.substituted, x.gap)
            | .substituted _ => (x.valid, min 4294967295 (x.substituted + 1), x.gap)
            | .gap => (x.valid, x.substituted, min 4294967295 (x.gap + 1)))
    ∧ (∀ (k : Nat) (w : Watch), a.watches[k]? = some w →
        ((w.enabled = false ∨ a.bins[w.bin]? = none) → b.watches[k]? = some w)
          ∧ ∀ x y, a.bins[w.bin]? = some x → b.bins[w.bin]? = some y → w.enabled = true →
              (w.measure = .total → b.watches[k]? = some (watchAt w y.value))
                ∧ (w.measure = .rate → r.figures = .gap → b.watches[k]? = some w)
                ∧ (w.measure = .rate → r.figures ≠ .gap → b.watches[k]? = some (watchAt w (min 18446744073709551615
                    (roundDiv (((y.value - x.value) * 36000000000 : Nat) : Int) (r.ticks : Nat)).toNat))))
    ∧ b = { a with bins := b.bins, header := b.header, lastBand := b.lastBand, watches := b.watches }

/-- R83, R92 to R98, R131 to R136: the posting of a record that applies to an OPEN account adds each bin's increment and
holds it at 2^63 − 1 with the pinned mark, or adds nothing for a GAP; counts the record in its disposition; notes its
window, epoch, LIMITED and pinning; sets last-band-seen; and evaluates the watches. When the record's band differs from
last-band-seen in a band-change account, a close with cause BAND_CHANGE begins first, which is carried out, held pending or
deferred, and the record is booked after it. The visit position rises, and after account 23 the next record is taken. -/
def Obligations.PostingBooksTheRecord : Prop :=
  ∀ (s : State) (v : Visit) (a : Account), s.posting.current = some v → s.account v.position = some a →
    a.suspended = false → Applies a v.record →
    (¬BandChanges a v.record → ∃ b t, AccountBecomes s t v.position a b ∧ BookedInto v.record a b
        ∧ exec .posting s = .next { t with posting := postingAfter s.posting v })
      ∧ (BandChanges a v.record → ∃ c b u t, AccountBecomes s u v.position a c ∧ CloseBegun s a .bandChange c
          ∧ AccountBecomes u t v.position c b ∧ BookedInto v.record c b
          ∧ exec .posting s = .next { t with posting := postingAfter s.posting v })

/-- R92 to R95, R98: a posting that does not apply leaves every account, and one to a SUSPENDED account leaves but the SKIPPED
count and the window numbers, after the band-change close where the band differs in a band-change account; no watch is
evaluated at the counting. Either way the visit position rises, and after account 23 the record leaves and the next record
is taken. -/
def Obligations.PostingPassesOverOrSkips : Prop :=
  ∀ (s : State) (v : Visit), s.posting.current = some v →
    ((∀ a, s.account v.position = some a → ¬Applies a v.record) →
        exec .posting s = .next { s with posting := postingAfter s.posting v })
      ∧ ∀ a, s.account v.position = some a → a.suspended = true → Applies a v.record →
          ∀ skipped : Account → Account, skipped = (fun c => { c with header := { c.header with
              tally := c.header.tally.set v.record.incomer
                { c.header.tally.get v.record.incomer with
                  windows := some (((c.header.tally.get v.record.incomer).windows.map (·.1)).getD v.record.window,
                    v.record.window)
                  skipped := min 4294967295 ((c.header.tally.get v.record.incomer).skipped + 1) } } }) →
            (¬BandChanges a v.record → exec .posting s = .next { s.setAccount v.position (some (skipped a)) with
                posting := postingAfter s.posting v })
              ∧ (BandChanges a v.record → ∃ c u, AccountBecomes s u v.position a c ∧ CloseBegun s a .bandChange c
                  ∧ exec .posting s = .next { u.setAccount v.position (some (skipped c)) with
                      posting := postingAfter s.posting v })

/-- R85, R86, R186: the tests of OPEN_ACCOUNT in their order, each refusal leaving everything but the response; and
the account that an accepted one opens. -/
def Obligations.OpenAccountOpensAFreeSlot : Prop :=
  ∀ (s : State) (p : Port) (r : Request) (f : OpenFields), s.inFlight p 1 r → f = openFields r →
    ((24 ≤ f.slot ∨ ownerOf f.slot ≠ p) → exec (.openAccount p) s = .next (s.respond p r.code .notOwner))
      ∧ (f.slot < 24 → ownerOf f.slot = p →
          ((s.account f.slot).isSome = true → exec (.openAccount p) s = .next (s.respond p r.code .inUse))
            ∧ (s.account f.slot = none →
                ∀ bad : Prop, bad = (f.binCount = 0 ∨ 40 < f.binCount ∨ (∃ c ∈ f.codes, 33 < c) ∨ f.bandMask = 0
                    ∨ 86400 < f.period ∨ f.scope = 3 ∨ f.first = 3 ∨ f.second = 3) →
                  (bad → exec (.openAccount p) s = .next (s.respond p r.code .invalid))
                    ∧ (¬bad → ¬f.codes.Nodup → exec (.openAccount p) s = .next (s.respond p r.code .duplicate))
                    ∧ (¬bad → f.codes.Nodup → ∃ a, exec (.openAccount p) s
                          = .next ((s.setAccount f.slot (some a)).respond p r.code .done)
                        ∧ a.suspended = false ∧ a.bins.map (·.code) = f.codes
                        ∧ (∀ (k : Nat) (b : Bin), a.bins[k]? = some b →
                            b.value = 0 ∧ b.pinned = false ∧ b.ownerOnly = binSetBit f.visibility k)
                        ∧ scopeOf f.scope = some a.scope ∧ a.bandMask = f.bandMask ∧ a.period = f.period
                        ∧ a.closeOnBandChange = f.closeOnBandChange ∧ a.mode = f.mode ∧ a.policy = f.policy
                        ∧ rightOf f.first = some a.rights.first ∧ rightOf f.second = some a.rights.second
                        ∧ a.header = {
                            sequence := 0, startSecond := s.time.second, epochs := none,
                            tally := { a := Tally.zero, b := Tally.zero }, merged := 0,
                            interruptions := if s.retention.interrupted then 1 else 0, limited := false,
                            pinnedAny := false, cleared := false, freeRunning := s.time.state != .tracking,
                            timeSet := false, timeSuspect := false, epochChanged := false }
                        ∧ a.ring = { records := [], emptySlot := 0 } ∧ a.lastBand = none ∧ a.pendingClose = none
                        ∧ a.deferredClose = false ∧ a.timerDue = false
                        ∧ ∀ w ∈ a.watches.toList, w = {
                            enabled := false, bin := 0, measure := .total, high := 0,
                            low := 0, signalling := .edge, route := { u := false, f := false, c := false },
                            above := false })))

/-- R87, R138: SET_RIGHTS replaces the rights of both non-owner ports and the visibility of every bin, trims every route
to the ports still qualified, and drops the pending entries of the ports that are not; a rights code 3 is refused. -/
def Obligations.SetRightsReplacesAndTrims : Prop :=
  ∀ (s : State) (p : Port) (r : Request) (a : Account), s.inFlight p 2 r → s.account r.account = some a →
    ownerOf r.account = p →
    ∀ x y, x = ((r.word 1).extractLsb' 9 2).toNat → y = ((r.word 1).extractLsb' 7 2).toNat →
      ((x = 3 ∨ y = 3) → exec (.setRights p) s = .next (s.respond p r.code .invalid))
        ∧ (x ≠ 3 → y ≠ 3 → ∃ t b, exec (.setRights p) s = .next t ∧ (t.port p).slot = .answered r.code .done
          ∧ t.account r.account = some b ∧ rightOf x = some b.rights.first ∧ rightOf y = some b.rights.second
          ∧ b.bins.length = a.bins.length
          ∧ (∀ (k : Nat) (u : Bin), a.bins[k]? = some u →
              b.bins[k]? = some { u with ownerOnly := binSetBit [r.word 2, r.word 3, r.word 4] k })
          ∧ (∀ (k : Nat) (w : Watch), a.watches[k]? = some w → ∃ u, b.watches[k]? = some u ∧ u = { w with route := u.route }
              ∧ ∀ q, u.route.get q = (w.route.get q && b.qualified r.account w.bin q))
          ∧ b = { a with rights := b.rights, bins := b.bins, watches := b.watches }
          ∧ (∀ q e, e ∈ (t.port q).pendingSet ↔ e ∈ (s.port q).pendingSet
              ∧ ¬(e.account = r.account ∧ ∃ w, b.watches[e.watch]? = some w ∧ b.qualified r.account w.bin q = false))
          ∧ (∀ n, n ≠ r.account → t.account n = s.account n)
          ∧ t.joint = s.joint ∧ t.time = s.time ∧ t.freeze = s.freeze)

/-- R88: SUSPEND and RESUME from the owner answer DONE and leave the account SUSPENDED or OPEN, and nothing else of the
account or of the part changes. -/
def Obligations.SuspendAndResumeSetTheState : Prop :=
  ∀ (s : State) (p : Port) (r : Request) (a : Account), s.account r.account = some a → ownerOf r.account = p →
    (s.inFlight p 3 r → exec (.suspend p) s = .next
        ((s.setAccount r.account (some { a with suspended := true })).respond p r.code .done))
      ∧ (s.inFlight p 4 r → exec (.resume p) s = .next
          ((s.setAccount r.account (some { a with suspended := false })).respond p r.code .done))

/-- R89, R133 to R135: CLEAR_BINS zeroes the bins, clears the pinned marks, the counts, the window numbers, LIMITED and
PINNED_ANY, sets CLEARED, and evaluates the TOTAL watches at 0; it leaves the rest of the header, last-band-seen, the
ring and every other account. -/
def Obligations.ClearBinsClearsTheInterval : Prop :=
  ∀ (s : State) (p : Port) (r : Request) (a : Account), s.inFlight p 5 r → s.account r.account = some a →
    ownerOf r.account = p →
    ∃ t b, exec (.clearBins p) s = .next (t.respond p r.code .done) ∧ AccountBecomes s t r.account a b
      ∧ b = { a with
          bins := a.bins.map fun x => { x with value := 0, pinned := false }
          header := { a.header with
            tally := { a := { windows := none, valid := 0, substituted := 0, gap := 0, skipped := 0 },
                       b := { windows := none, valid := 0, substituted := 0, gap := 0, skipped := 0 } }
            limited := false, pinnedAny := false, cleared := true }
          watches := b.watches }
      ∧ ∀ (k : Nat) (w : Watch), a.watches[k]? = some w → b.watches[k]? = some
          (if w.enabled = true ∧ w.measure = .total ∧ w.bin < a.bins.length then watchAt w 0 else w)

/-- R90, R139: TEARDOWN is refused with BUSY while a record is WRITING and with UNRELEASED while the ring holds one;
otherwise the slot is FREE and its entries leave every pending set. -/
def Obligations.TeardownFreesTheSlot : Prop :=
  ∀ (s : State) (p : Port) (r : Request) (a : Account), s.inFlight p 9 r → s.account r.account = some a →
    ownerOf r.account = p →
    (a.ring.writing = true → exec (.teardown p) s = .next (s.respond p r.code .busy))
      ∧ (a.ring.writing = false → a.ring.records ≠ [] →
          exec (.teardown p) s = .next (s.respond p r.code .unreleased))
      ∧ (a.ring.records = [] → ∃ t, exec (.teardown p) s = .next t ∧ (t.port p).slot = .answered r.code .done
          ∧ t.account r.account = none ∧ (∀ n, n ≠ r.account → t.account n = s.account n)
          ∧ (∀ q e, e ∈ (t.port q).pendingSet ↔ e ∈ (s.port q).pendingSet ∧ e.account ≠ r.account)
          ∧ t.joint = s.joint ∧ t.time = s.time ∧ t.freeze = s.freeze)

/-- R80 to R83, R90, R122, R129: the laws of an account's record hold after every step that starts with them. -/
def Obligations.StepKeepsAccountLaw : Prop :=
  ∀ s t : State, s.AccountLaw → step s = .next t → t.AccountLaw

/-! ### Time, bands, intervals and history -/

/-- The copy of account `n` as it stands (R156). -/
def CopyNow (s : State) (n : Nat) (c : Copy) : Prop :=
  c.account = n ∧ c.second = s.time.second
    ∧ (s.account n = none → c.body = none)
    ∧ ∀ a, s.account n = some a → c.body = some { suspended := a.suspended, header := a.header, bins := a.bins }

/-- Buffer `b` of `t` has passed to port `p` with a copy of account `n` as it stands in `s` and a loaded timer, and
FREEZE_GRANTED is raised to the port (R158, R161, R162). -/
def Granted (s t : State) (b : Fin 2) (p : Port) (n : Nat) : Prop :=
  (∃ c, CopyNow s n c ∧ t.freeze.buffer b =
      { timer := s.joint.committed.slotLength.toNat, held := some { holder := p, copy := c, reclaimDue := false } })
    ∧ t.edgeSet p .freezeGranted

/-- A HELD buffer reloaded with the slot length, its reclaim-due mark clear; a FREE one keeps its timer (R162). -/
def reloaded (s : State) (x : Buffer) : Buffer :=
  match x.held with
  | some h => { timer := s.joint.committed.slotLength.toNat, held := some { h with reclaimDue := false } }
  | none => x

/-- `t` is `s` after buffer `b` has passed to the waiter `w` at the head of the list, with `rest` behind it: the copy is
taken, the timer loaded, and when the list becomes empty the other buffer reloads (R161, R162). `freeDraws` is the model's
own (log entry 5). -/
def PassedOn (s t : State) (b : Fin 2) (w : Waiter) (rest : List Waiter) : Prop :=
  Granted s t b w.port w.account ∧ t.freeze.waiting = rest
    ∧ (∀ c, c ≠ b → t.freeze.buffer c =
        if rest = [] then reloaded s (s.freeze.buffer c) else s.freeze.buffer c)
    ∧ PortRaised (s.port w.port) (t.port w.port) .freezeGranted ∧ (∀ p, p ≠ w.port → t.port p = s.port p)
    ∧ t = { s with freeze := t.freeze, ports := t.ports, freeDraws := s.freeDraws + 1 }

/-- `t` is `s` after buffer `b` is reclaimed from port `p` and passes to the head of the list (R164). -/
def Reclaimed (s t : State) (b : Fin 2) (p : Port) (w : Waiter) (rest : List Waiter) : Prop :=
  ∃ m, m = s.setPort p (m.port p) ∧ PortRaised (s.port p) (m.port p) .reclaimed ∧ PassedOn m t b w rest

/-- Buffer `b`'s slot timer stands expired in `s` with a port waiting and `h` holding it (R164). -/
def SlotExpired (s : State) (b : Fin 2) (h : Holding) : Prop :=
  (s.freeze.buffer b).held = some h ∧ (s.freeze.buffer b).timer = 0 ∧ h.reclaimDue = false ∧ s.freeze.waiting ≠ []

/-- `t` is `s` after the expiry of buffer `b`'s slot timer, if it has expired: reclaimed, or deferred with the reclaim-due
mark set while its holder has a FREEZE read open (R164, R165). -/
def SlotSettled (s t : State) (b : Fin 2) : Prop :=
  ((∀ h, ¬SlotExpired s b h) → t = s)
    ∧ ∀ h, SlotExpired s b h →
        (s.freezeReadOpen h.holder = true → t = s.setFreeze (s.freeze.setBuffer b
            { timer := 0, held := some { h with reclaimDue := true } }))
          ∧ (s.freezeReadOpen h.holder = false → ∀ w rest, s.freeze.waiting = w :: rest →
              Reclaimed s t b h.holder w rest)

/-- A buffer's slot timer after a second tick with a port waiting: it falls by one unless the buffer is FREE, the timer is
at 0 or the mark is set (R163). -/
def slotCounted (x : Buffer) : Buffer :=
  match x.held with
  | some h => if h.reclaimDue then x else { x with timer := x.timer - 1 }
  | none => x

/-- What a second tick does to the accounts, the proposal, the second count and the freeze unit, whatever its source (R71,
R72, R108, R113, R163 to R165): `u` is `s` after a second tick that found the headers as `f` leaves them. With a port
waiting the slot timers count, and buffer 0 is settled before buffer 1. -/
def SecondTicked (f : Account → Account) (s u : State) : Prop :=
  u.time.second = s.time.second + 1 ∧ u.time.freeRun = 0
    ∧ (∀ n, u.account n = (s.account n).map fun a =>
        if 0 < a.period ∧ (s.time.second + 1).toNat % a.period = 0 then { f a with timerDue := true } else f a)
    ∧ (s.joint.proposal = none → u.joint = s.joint)
    ∧ (∀ q, s.joint.proposal = some q → 1 < q.remaining →
        u.joint = { s.joint with proposal := some { q with remaining := q.remaining - 1 } })
    ∧ (∀ q, s.joint.proposal = some q → q.remaining = 1 →
        u.joint = { s.joint with proposal := none } ∧ u.edgeSet .U .lapsed ∧ u.edgeSet .F .lapsed)
    ∧ (s.freeze.waiting = [] → u.freeze = s.freeze)
    ∧ (s.freeze.waiting ≠ [] → ∃ m n,
        SlotSettled { s with
          time := u.time, accounts := u.accounts
          freeze := { s.freeze with buffer0 := slotCounted s.freeze.buffer0
                                    buffer1 := slotCounted s.freeze.buffer1 } } m 0
          ∧ SlotSettled m n 1 ∧ u.freeze = n.freeze
          ∧ ∀ p e, (e = Event.reclaimed ∨ e = Event.freezeGranted) → (u.edgeSet p e ↔ n.edgeSet p e))
    ∧ u.receivers = s.receivers ∧ u.assemblers = s.assemblers ∧ u.calculator = s.calculator ∧ u.posting = s.posting

/-- R71, R72, R106 to R108, R113, R162 to R165: the class of a second pulse by its distance from the reference pulse tick, its
effect on the pulse state, and whether it is a second tick, which counts the lapse timer, marks the periodic accounts
and, with a port waiting, counts the slot timers and makes or defers the reclaims of those that reach 0. -/
def Obligations.SecondPulseIsClassed : Prop :=
  ∀ s : State,
    (s.time.reference = none → exec .secondPulse s =
        .next (s.setTime { s.time with reference := some s.now, streak := 0 }))
      ∧ ∀ m, s.time.reference = some m →
          (s.now < m + 9999000 → exec .secondPulse s = .next s)
            ∧ (m + 10001000 < s.now → exec .secondPulse s =
                .next (s.setTime { s.time with reference := some s.now, streak := 0 }))
            ∧ (m + 9999000 ≤ s.now → s.now ≤ m + 10001000 →
                ((s.time.state ≠ .tracking ∧ s.time.streak = 0) → exec .secondPulse s = .next (s.setTime
                    { s.time with reference := some s.now, lastAccepted := some s.now, streak := 1 }))
                  ∧ ((s.time.state = .tracking ∨ s.time.streak ≠ 0) →
                    ∃ t, exec .secondPulse s = .next t ∧ t.time = { s.time with
                        second := s.time.second + 1, state := .tracking, reference := some s.now,
                        lastAccepted := some s.now, streak := min 2 (s.time.streak + 1), freeRun := 0 }
                      ∧ SecondTicked (fun a => a) s t))

/-- R71, R72, R107 to R109, R113, R162 to R165: the entry to HOLDOVER is a second tick that sets FREE_RUNNING in every open header and
the streak to 0, and a full free-run counter makes a second tick in UNSET and HOLDOVER. -/
def Obligations.HoldoverAndFreeRunMakeSecondTicks : Prop :=
  (∀ (s : State) (m : Nat), s.time.state = .tracking → s.time.lastAccepted = some m → m + 15000000 ≤ s.now →
      ∃ t, exec .holdoverEntry s = .next t ∧ t.time.state = .holdover ∧ t.time.streak = 0
        ∧ t.time.reference = s.time.reference ∧ t.time.lastAccepted = s.time.lastAccepted
        ∧ SecondTicked (fun a => { a with header := { a.header with freeRunning := true } }) s t)
    ∧ ∀ s : State, s.time.state ≠ .tracking → 10000000 ≤ s.time.freeRun →
        ∃ t, exec .freeRunTick s = .next t
          ∧ t.time = { s.time with second := s.time.second + 1, freeRun := 0 }
          ∧ SecondTicked (fun a => a) s t

/-- R114 to R117, R119, R120: CLOSE_INTERVAL answers DONE in every case. While a record is WRITING it sets the pending
mark with cause MANUAL or raises the merged-closure count; in a full HOLD ring it raises that count and sets the deferred
mark; otherwise the close is carried out. -/
def Obligations.CloseIntervalMeetsTheTests : Prop :=
  ∀ (s : State) (p : Port) (r : Request) (a : Account), s.inFlight p 6 r → s.account r.account = some a →
    ownerOf r.account = p →
    ∃ t b, exec (.closeInterval p) s = .next (t.respond p r.code .done) ∧ AccountBecomes s t r.account a b
      ∧ CloseBegun s a .manual b

/-- R113, R115 to R117, R119, R120: a timer-due account takes a close begin with cause TIMER and loses its mark whichever
test the begin meets: carried out (in a full WRAP ring too), held pending while a record is WRITING, or deferred in a full
HOLD ring. With no record WRITING a pending close begins with the cause it holds, its mark clear, and is deferred in a full
HOLD ring and else carried out; a deferred one in a ring with room begins with cause DEFERRED and is carried out (held
closes that stand alone are the model's reading, log entry 8). -/
def Obligations.HeldAndTimerClosesAreCarriedOut : Prop :=
  ∀ (s : State) (n : Fin 24) (a : Account), s.account n = some a →
    (a.timerDue = true → ∃ t b, exec (.timerCloseBegin n) s = .next t ∧ AccountBecomes s t n a b
        ∧ CloseBegun s { a with timerDue := false } .timer b ∧ b.timerDue = false)
      ∧ (∀ c, a.pendingClose = some c → a.ring.writing = false →
          ∃ t b, exec (.pendingCloseBegin n) s = .next t ∧ AccountBecomes s t n a b
            ∧ CloseBegun s { a with pendingClose := none } c b ∧ b.pendingClose = none)
      ∧ (a.deferredClose = true → a.ring.writing = false → a.ring.records.length < 32 →
          ∃ t b, exec (.deferredCloseBegin n) s = .next t ∧ AccountBecomes s t n a b
            ∧ CarriedOut s { a with deferredClose := false } .deferred b ∧ b.deferredClose = false)

/-- R115, R118 to R120: at the record-written event the record becomes STORED and RECORD is raised to the owner and to the
ports that hold READ or READ_FREEZE, and to no other; with no close pending nothing else of the account changes, and a
pending close begins at the event with the cause it holds: carried out, in a full WRAP ring too, or deferred in a full HOLD
ring. -/
def Obligations.RecordWrittenStoresTheRecord : Prop :=
  ∀ (s : State) (n : Fin 24) (a c : Account), s.account n = some a → a.ring.writing = true →
    c = { a with ring := { a.ring with records := a.ring.records.map fun h => { h with writing := false } } } →
    ∃ m t b, exec (.recordWritten n) s = .next t ∧ AccountBecomes m t n a b
      ∧ m = { s with ports := m.ports }
      ∧ (∀ p, (p = ownerOf n ∨ a.rightOf n p ≠ .none) → PortRaised (s.port p) (m.port p) .record)
      ∧ (∀ p, p ≠ ownerOf n → a.rightOf n p = .none → m.port p = s.port p)
      ∧ (a.pendingClose = none → b = c)
      ∧ ∀ k, a.pendingClose = some k → CloseBegun s { c with pendingClose := none } k b ∧ b.pendingClose = none

/-- R120, R122, R123: RELEASE_RECORDS removes every STORED record numbered s or earlier, judged by distance, keeps the
others with their slots, and answers DONE; when it removed one while a close was deferred, that close begins with cause
DEFERRED and its mark clear. -/
def Obligations.ReleaseRecordsRemovesTheStored : Prop :=
  ∀ (s : State) (p : Port) (r : Request) (a : Account) (kept : List HistoryRecord) (k : Ring), s.inFlight p 7 r →
    s.account r.account = some a → ownerOf r.account = p →
    kept = a.ring.records.filter (fun h =>
      h.writing || decide (2147483648 ≤ (r.pair 1 - h.header.sequence).toNat)) →
    k = { records := kept, emptySlot := if kept = [] then slotAfter a.ring else a.ring.emptySlot } →
    ∃ t b, exec (.releaseRecords p) s = .next (t.respond p r.code .done) ∧ AccountBecomes s t r.account a b
      ∧ ((a.deferredClose = false ∨ kept.length = a.ring.records.length) → b = { a with ring := k })
      ∧ (a.deferredClose = true → kept.length < a.ring.records.length →
          CloseBegun s { a with ring := k, deferredClose := false } .deferred b)

/-- R110, R111: SET_TIME from port U sets the second count, and every open header gets TIME_SET and loses TIME_SUSPECT;
SELECT_BAND from port U sets the band when it is 0 to 7 and is INVALID otherwise; both are refused to ports F and C. -/
def Obligations.PortUSetsTimeAndBand : Prop :=
  ∀ (s : State) (p : Port) (r : Request),
    (s.inFlight p 16 r →
        (p ≠ .U → exec (.setTime p) s = .next (s.respond p r.code .notPermitted))
          ∧ (p = .U → exec (.setTime p) s = .next
              (((s.setTime { s.time with second := r.word 0 ++ r.word 1 }).mapAccounts fun a =>
                { a with header := { a.header with timeSet := true, timeSuspect := false } }).respond p r.code .done)))
      ∧ (s.inFlight p 17 r →
          (p ≠ .U → exec (.selectBand p) s = .next (s.respond p r.code .notPermitted))
            ∧ (p = .U → 7 < (r.word 0).toNat → exec (.selectBand p) s = .next (s.respond p r.code .invalid))
            ∧ (p = .U → ∀ b : BitVec 3, (r.word 0).toNat = b.toNat → exec (.selectBand p) s = .next
                ((s.setTime { s.time with band := b }).respond p r.code .done)))

/-! ### Watches -/

/-- R134 to R136: an evaluation changes the watch's state by the table of state and measure; each change of state of an
enabled watch is one crossing, with no crossing but these, and an evaluation without a change routes nothing. A crossing
enters the pending set of each port of the watch's route: as a new entry with a count of 1, or in the entry that stands,
whose latest crossing it becomes and whose count rises, held at 255. -/
def Obligations.WatchEvaluationFollowsTheTable : Prop :=
  (∀ (w : Watch) (m : Nat),
      (w.above = false → w.high ≤ m → w.crossing m = some .rise ∧ w.cross (w.crossing m) = { w with above := true })
        ∧ (w.above = false → m < w.high → w.crossing m = none ∧ w.cross (w.crossing m) = w)
        ∧ (w.above = true → m ≤ w.low → w.crossing m = some .fall ∧ w.cross (w.crossing m) = { w with above := false })
        ∧ (w.above = true → w.low < m → w.crossing m = none ∧ w.cross (w.crossing m) = w))
    ∧ (∀ (a : Account) (k : Option Booked) (i : Nat) (w : Watch), a.watches[i]? = some w →
        (a.measureOf k w = none → (a.evaluate k).1.watches[i]? = some w ∧ ∀ x ∈ (a.evaluate k).2, x.watch ≠ i)
          ∧ ∀ m, a.measureOf k w = some m → w.enabled = true
            ∧ (a.evaluate k).1.watches[i]? = some (w.cross (w.crossing m))
            ∧ ∀ c, w.crossing m = some c ↔ { watch := i, kind := c, route := w.route } ∈ (a.evaluate k).2)
    ∧ (∀ (a : Account) (k : Option Booked), ∀ x ∈ (a.evaluate k).2, ∃ w m, a.watches[x.watch]? = some w
        ∧ a.measureOf k w = some m ∧ w.crossing m = some x.kind ∧ x.route = w.route)
    ∧ (∀ (s t : State) (n : Nat) (a : Account) (x : Crossed), t = s.setEvaluated n (a, [x]) → ∀ p, (s.port p).Law →
        (x.route.get p = false → t.port p = s.port p)
          ∧ (x.route.get p = true →
            ((∀ e ∈ (s.port p).pendingSet, ¬(e.account = n ∧ e.watch = x.watch)) →
                { account := n, watch := x.watch, first := x.kind, latest := x.kind, count := 1, sinceCount := 1,
                  sinceFirst := x.kind } ∈ (t.port p).pendingSet)
              ∧ (∀ e ∈ (s.port p).pendingSet, e.account = n → e.watch = x.watch →
                ∃ f ∈ (t.port p).pendingSet, f.account = n ∧ f.watch = x.watch ∧ f.latest = x.kind
                  ∧ f.count = min 255 (e.count + 1) ∧ f.first = if e.count = 0 then x.kind else e.first)
              ∧ ∀ e, ¬(e.account = n ∧ e.watch = x.watch) →
                  (e ∈ (t.port p).pendingSet ↔ e ∈ (s.port p).pendingSet)))
    ∧ ∀ (s : State) (n : Nat) (a : Account), (s.setEvaluated n (a, [])).ports = s.ports

/-- R130: SET_WATCH is INVALID for a watch above 3, a bin past the bin list, an L above H, an unknown measure or signalling,
or a route with a port that is not qualified; otherwise it replaces every field, sets BELOW, and removes the watch's
entry from every pending set, and evaluates nothing. -/
def Obligations.SetWatchReplacesTheWatch : Prop :=
  ∀ (s : State) (p : Port) (r : Request) (a : Account) (f : WatchFields), s.inFlight p 8 r →
    s.account r.account = some a → ownerOf r.account = p → f = watchFields r →
    ∀ good : Prop, good = (f.watch < 4 ∧ f.bin < a.bins.length ∧ f.measure < 2 ∧ f.signalling < 2 ∧ f.low ≤ f.high
        ∧ ∀ q, f.route.get q = true → a.qualified r.account f.bin q = true) →
      (¬good → exec (.setWatch p) s = .next (s.respond p r.code .invalid))
        ∧ (good → ∃ t b w, exec (.setWatch p) s = .next t ∧ (t.port p).slot = .answered r.code .done
          ∧ t.account r.account = some b ∧ b = { a with watches := b.watches } ∧ b.watches[f.watch]? = some w
          ∧ w.enabled = f.enabled ∧ w.bin = f.bin ∧ w.high = f.high ∧ w.low = f.low ∧ w.route = f.route
          ∧ measureCode w.measure = f.measure ∧ signallingCode w.signalling = f.signalling ∧ w.above = false
          ∧ (∀ k, k ≠ f.watch → b.watches[k]? = a.watches[k]?)
          ∧ (∀ n, n ≠ r.account → t.account n = s.account n)
          ∧ (∀ q e, e ∈ (t.port q).pendingSet ↔ e ∈ (s.port q).pendingSet
              ∧ ¬(e.account = r.account ∧ e.watch = f.watch))
          ∧ t.joint = s.joint ∧ t.time = s.time ∧ t.freeze = s.freeze)

/-- R135, R136, R138, R139: whatever a step does, no port's pending set holds an entry, and no route holds a port, that
is not qualified for the watch, if none did before. -/
def Obligations.StepKeepsRouteLaw : Prop :=
  ∀ s t : State, s.RouteLaw → step s = .next t → t.RouteLaw

/-- R136, R151, R170, R179, R182, R183: the laws of the ports hold after every step that starts with them. -/
def Obligations.StepKeepsPortLaw : Prop :=
  ∀ s t : State, s.PortLaw → step s = .next t → t.PortLaw

/-! ### Access checking and fault records -/

/-- R91, R143, R148, R151, R157: an account request that needs ownership, from a port that does not own the account or for a
slot that holds none, is refused with RIGHTS whatever it asks, and changes the sender's response slot and fault record
alone; so is a FREEZE of a slot that holds none, or from a non-owner that holds NONE or READ, whether or not the sender
holds a buffer or waits. -/
def Obligations.AccountRequestsNeedOwnership : Prop :=
  ∀ (s : State) (c : Instr) (p : Port) (k : Nat) (r : Request) (i : FaultInfo), c.request = some (p, k) →
    s.inFlight p k r →
    ((2 ≤ k ∧ k ≤ 9 ∧ (s.account r.account = none ∨ ownerOf r.account ≠ p))
      ∨ (k = 10 ∧ (s.account r.account = none
          ∨ ownerOf r.account ≠ p ∧ ∀ a, s.account r.account = some a → a.rightOf r.account p ≠ .readFreeze))) →
    i = { kind := if s.account r.account = none then .absentAccount else .rights, request := true,
          account := some (loByte (r.word 0)), entry := none } →
    exec c s = .next ((s.setPort p { s.port p with
      fault := if (s.port p).fault.content = none then { (s.port p).fault with content := some i }
        else { (s.port p).fault with overflow := true }
      faultSince := true }).respond p r.code .rights)

/-- R80, R91, R110, R142, R143, R183: no request, no transaction and no port reset of a port changes an account that the
port does not own, but for the two flags that SET_TIME from port U sets. -/
def Obligations.OnlyTheOwnerChangesAnAccount : Prop :=
  ∀ (c : Instr) (p : Port) (s t : State) (n : Nat), exec c s = .next t → ownerOf n ≠ p →
    ((∃ k, c.request = some (p, k)) ∨ (∃ k e, c.transaction = some (p, k, e)) ∨ c = .portReset p
      ∨ c = .portResetDeassertion p) →
    t.account n = s.account n ∨ (c = .setTime .U ∧ t.account n = (s.account n).map fun a =>
      { a with header := { a.header with timeSet := true, timeSuspect := false } })

/-! ### Freeze buffers -/

/-- R148, R157: a FREEZE of an account that the sender owns or may freeze is refused while the sender holds a buffer or
waits; it is granted the lowest-numbered FREE buffer, or queued behind the others. -/
def Obligations.FreezeIsGrantedOrQueued : Prop :=
  ∀ (s : State) (p : Port) (r : Request) (a : Account), s.inFlight p 10 r → s.account r.account = some a →
    (p = ownerOf r.account ∨ a.rightOf r.account p = .readFreeze) →
    ((s.freeze.heldBy p).isSome = true → exec (.freeze p) s = .next (s.respond p r.code .alreadyHolding))
      ∧ (s.freeze.heldBy p = none → (∃ w ∈ s.freeze.waiting, w.port = p) →
          exec (.freeze p) s = .next (s.respond p r.code .alreadyWaiting))
      ∧ (s.freeze.heldBy p = none → (∀ w ∈ s.freeze.waiting, w.port ≠ p) →
          (∀ b : Fin 2, (s.freeze.buffer b).held = none → (b = 1 → (s.freeze.buffer 0).held.isSome = true) →
              ∃ t, exec (.freeze p) s = .next t ∧ Granted s t b p r.account ∧ (t.port p).slot = .answered r.code .done
                ∧ t.freeze.waiting = s.freeze.waiting ∧ (∀ c, c ≠ b → t.freeze.buffer c = s.freeze.buffer c)
                ∧ t.accounts = s.accounts ∧ t.joint = s.joint ∧ t.time = s.time)
            ∧ ((s.freeze.buffer 0).held.isSome = true → (s.freeze.buffer 1).held.isSome = true →
              exec (.freeze p) s = .next ((s.setFreeze { s.freeze with
                waiting := s.freeze.waiting ++ [{ port := p, account := r.account }] }).respond p r.code .accepted)))

/-- `m` is `s` after port `p` has given up what it has of the freeze unit (R160 to R162, R168): from a holder with no port
waiting the buffer is FREE and its timer stands; with a port waiting it passes to the head of the list; from a port that
waits its entry leaves, and when the list becomes empty the HELD buffers reload; from a port with neither nothing
changes. -/
def GivenUp (s m : State) (p : Port) : Prop :=
  (s.freeze.heldBy p = none → (∀ w ∈ s.freeze.waiting, w.port ≠ p) → m = s)
    ∧ (s.freeze.heldBy p = none → (∃ w ∈ s.freeze.waiting, w.port = p) →
        ∀ ws, ws = s.freeze.waiting.filter (fun w => w.port != p) →
        m = s.setFreeze (if ws = [] then
            { buffer0 := reloaded s s.freeze.buffer0, buffer1 := reloaded s s.freeze.buffer1, waiting := [] }
          else { s.freeze with waiting := ws }))
    ∧ ∀ b, s.freeze.heldBy p = some b →
        (s.freeze.waiting = [] → m = s.setFreeze (s.freeze.setBuffer b
            { timer := (s.freeze.buffer b).timer, held := none }))
          ∧ ∀ w rest, s.freeze.waiting = w :: rest → PassedOn s m b w rest

/-- R160 to R162: UNFREEZE answers DONE. From a holder with no port waiting the buffer is FREE and its timer stands; with a
port waiting it passes to the head of the list, and when the list becomes empty the other HELD buffer's timer reloads and
its mark clears. From a port that waits its entry leaves. From a port with neither nothing changes. -/
def Obligations.UnfreezeGivesTheBufferBack : Prop :=
  ∀ (s : State) (p : Port) (r : Request), s.inFlight p 11 r →
    ∃ m, exec (.unfreeze p) s = .next (m.respond p r.code .done) ∧ GivenUp s m p

/-- R162, R164, R165: with a port waiting, the expiry of a slot timer reclaims the buffer from its holder and passes it,
unless the holder has a FREEZE read open, which sets the reclaim-due mark; and a deferred reclaim whose holder's read has
ended is made, or its mark clears when no port waits (expiries and reclaims that stand alone are the model's reading, log
entry 8; those that a second tick and the end of a read make stand in SecondPulseIsClassed and FreezeReadShowsTheHeldCopy). -/
def Obligations.ExpiredSlotsAreReclaimed : Prop :=
  ∀ (s : State) (b : Fin 2) (h : Holding), (s.freeze.buffer b).held = some h →
    (SlotExpired s b h → ∃ t, exec (.slotTimerExpiry b) s = .next t ∧ SlotSettled s t b)
      ∧ (h.reclaimDue = true → s.freezeReadOpen h.holder = false →
          ∀ m, m = s.setFreeze (s.freeze.setBuffer b
              { timer := (s.freeze.buffer b).timer, held := some { h with reclaimDue := false } }) →
          (s.freeze.waiting = [] → exec (.deferredReclaim b) s = .next m)
            ∧ ∀ w rest, s.freeze.waiting = w :: rest → ∃ t, exec (.deferredReclaim b) s = .next t
                ∧ Reclaimed m t b h.holder w rest)

/-- R155, R159, R162: the laws of the freeze unit hold after every step that starts with them. -/
def Obligations.StepKeepsFreezeLaw : Prop :=
  ∀ s t : State, s.FreezeLaw → step s = .next t → t.FreezeLaw

/-! ### Serial ports -/

/-- R67, R170 to R172, R185, 10.7: the fields of a head word and the word are read from one another without loss; a table
read word by word and written word by word into any draft is that table; and the two words of the base epoch write
nothing. -/
def Obligations.HeadWordsAndTablesRoundTrip : Prop :=
  (∀ h : HeadWord, decodeHead (encodeHead h) = h) ∧ (∀ w : Word, encodeHead (decodeHead w) = w)
    ∧ (∀ t u : Table, ((tableWords t).zipIdx).foldl (fun d wk => writeTable d wk.2 wk.1) u = t)
    ∧ (∀ t : Table, (tableWords t).length = 60)
    ∧ ∀ (t : Table) (k : Nat) (w : Word), 60 ≤ k → writeTable t k w = t

/-- Chip select has fallen at a port in state `x` and no head word is complete (R170). -/
def AwaitsHead (x : PortState) : Prop := x.transaction = none ∧ ∃ r, x.select = .low r

/-- R170, R182, R183: at a port whose reset input is not asserted the fall of chip select begins a transaction in the format
and k of the settings as they stand, whatever SET_PORT does before the head word; a head word of a command's row gives it
its row, with FFFFh shifted out (the events of a transaction are the model's, log entry 11); the rise of chip select ends it
with its pointer and offset word, and before the head word changes nothing else. None of these changes an account or the
joint table. While the reset input stays asserted the port takes no transaction: whatever the event, of whatever row,
nothing changes but the data output, which is FFFFh, and the level of chip select. After the deassertion, and after a start,
the words framed by a fall that came before are ignored until chip select rises, and what they read is a free value (log
entry 35). -/
def Obligations.TransactionsBeginAndEnd : Prop :=
  ∀ (c : Instr) (p : Port) (k : TxKind) (s : State),
    ((s.port p).resetAsserted = true → ∀ e, c.transaction = some (p, k, e) → ∃ x, exec c s = .next (s.setPort p
          { s.port p with select := x, dataOut := 0xFFFF })
        ∧ (e = .fall → x = .ignored) ∧ (e = .rise → x = .high)
        ∧ ((∃ w, e = .head w ∨ e = .word w) → x = (s.port p).select))
      ∧ ((s.port p).resetAsserted = false →
        (c.transaction = some (p, k, .fall) → (s.port p).transaction = none → (s.port p).select = .high →
            exec c s = .next (s.setPort p { s.port p with
              select := .low { format := (s.port p).settings.format, exponent := (s.port p).settings.exponent } }))
          ∧ (∀ w, c.transaction = some (p, k, .head w) → AwaitsHead (s.port p) → rowOf p w = k →
            ∃ t x, exec c s = .next t ∧ (t.port p).transaction = some x ∧ x.kind = k ∧ x.head = w ∧ x.offset = none
              ∧ (s.port p).select = .low { format := x.format, exponent := x.exponent }
              ∧ (t.port p).select = (s.port p).select
              ∧ x.moved = 0 ∧ (t.port p).dataOut = 0xFFFF ∧ t.accounts = s.accounts ∧ t.joint = s.joint
              ∧ t.freeze = s.freeze ∧ (∀ q, q ≠ p → t.port q = s.port q))
          ∧ (c.transaction = some (p, k, .rise) → (s.port p).transaction = none →
              exec c s = .next (s.setPort p { s.port p with select := .high }))
          ∧ (∀ e w, (e = .head w ∨ e = .word w) → c.transaction = some (p, k, e) → (s.port p).transaction = none →
              (s.port p).select = .ignored → ∃ v d, exec c s =
                .next { s.setPort p { s.port p with dataOut := v } with freeDraws := d })
          ∧ ∀ x, c.transaction = some (p, k, .rise) → (s.port p).transaction = some x → x.kind = k →
              ∃ t, exec c s = .next t ∧ (t.port p).transaction = none ∧ (t.port p).select = .high
                ∧ t.accounts = s.accounts ∧ t.joint = s.joint)

/-- R146, R150, R170, R171: a head word that a port refuses writes its fault, and each later word reads FFFFh for bad
framing and 0000h for a wrong direction or an absent item, changing nothing but the count of the words moved
(BAD_FRAMING, WRONG_DIRECTION_ACCESS, ABSENT_ITEM_ACCESS). The fault's operation is the direction of the head word, which
R150 says of a wrong direction; for an absent item it is the model's reading (DEDUCED, log entry 33). -/
def Obligations.RefusedHeadWordsWriteTheirFault : Prop :=
  ∀ (p : Port) (k : TxKind) (s : State) (w : Word) (i : FaultInfo), (s.port p).resetAsserted = false →
    (k = .badFraming ∨ k = .wrongDirection ∨ k = .absentItem) →
    i = { kind := if k = .absentItem then .absentEntry else .wrongDirection, request := w.getLsbD 11,
          account := none, entry := if k = .absentItem then some (w.extractLsb' 0 8) else none } →
    ∀ c : TxEvent → Instr, c = (if k = .badFraming then Instr.badFraming p
        else if k = .wrongDirection then Instr.wrongDirectionAccess p else Instr.absentItemAccess p) →
      (AwaitsHead (s.port p) → rowOf p w = k →
          ∃ t, exec (c (.head w)) s = .next t
            ∧ ((s.port p).fault.content = none →
                (t.port p).fault = { (s.port p).fault with content := some i })
            ∧ ((s.port p).fault.content ≠ none → (t.port p).fault = { (s.port p).fault with overflow := true }))
        ∧ ∀ x, (s.port p).transaction = some x → x.kind = k →
            exec (c (.word w)) s = .next (s.setPort p { s.port p with
              transaction := some { x with pointer := x.pointer + 1, moved := x.moved + 1 }
              dataOut := if k = .badFraming then 0xFFFF else 0 })

/-- `t` is `s` after a data word of an item latched whole, at port `p` in transaction `x`: 0000h after a failed check, the
word at the pointer, or past the last word 0000h with OVERRUN (R146, R172, R173). -/
def ItemWordMoved (s t : State) (p : Port) (x : Transaction) : Prop :=
  ∀ y, y = { x with pointer := x.pointer + 1, moved := x.moved + 1 } →
    (x.zeros = true → t = s.setPort p { s.port p with transaction := some y, dataOut := 0 })
      ∧ (x.zeros = false → ∀ v, x.latch[x.pointer]? = some v → v.saturated = false →
          t = s.setPort p { s.port p with transaction := some y, dataOut := v.word })
      ∧ (x.zeros = false → x.latch[x.pointer]? = none → t = s.setPort p
          { s.port p with transaction := some y, dataOut := 0, overrun := true, overrunSince := true })

/-- Transaction `y` is newly open for the row `k` with head word `w` at a port in state `x`, in the readout of the fall of chip
select that began it (R171 to R173, R182). -/
def NewlyOpen (x : PortState) (y : Transaction) (k : TxKind) (w : Word) : Prop :=
  y.kind = k ∧ y.head = w ∧ y.opened = true ∧ y.offset = none ∧ y.pointer = 0 ∧ y.moved = 0 ∧ y.zeros = false
    ∧ y.faulted = false ∧ y.entry = 0 ∧ y.past = false
    ∧ x.select = .low { format := y.format, exponent := y.exponent } ∧ y.words = [] ∧ ∀ v ∈ y.latch, v.saturated = false

/-- The two words of a 32-bit value, most significant first (10.7). -/
def pairOf (c : BitVec 32) : List Word := [c.extractLsb' 16 16, c.extractLsb' 0 16]

/-- Bit `k` of the event status stands at port `p`: an edge indication that is set, or a level indication whose condition
holds (R107, R136, R151, R179). -/
def IndicationStands (s : State) (p : Port) (k : Nat) : Prop :=
  (s.port p).edges.getLsbD k = true ∨ (k = 2 ∧ (s.port p).pendingSet ≠ [])
    ∨ (k = 5 ∧ ∃ q, s.joint.proposal = some q ∧ p ≠ .C ∧ p ≠ q.proposer)
    ∨ (k = 8 ∧ (s.port p).fault.content ≠ none)
    ∨ (k = 9 ∧ ∃ i, s.joint.committed.enabled.get i = true ∧ (s.receiver i).state ≠ .locked)
    ∨ (k = 10 ∧ s.time.state ≠ .tracking)

/-- The words of the status item at port `p` (R112, R155, R179, R180, 10.7). -/
def StatusShown (s : State) (p : Port) (ws : List Word) : Prop :=
  ∃ e f : Word, ws = [e, f] ++ pairOf s.time.second
    ∧ (∀ k, e.getLsbD k = true ↔ IndicationStands s p k)
    ∧ f.getLsbD 15 = (s.port p).overrun ∧ f.getLsbD 14 = (s.port p).limited ∧ f.getLsbD 13 = (s.port p).cold
    ∧ (∀ b, s.freeze.heldBy p = some b → f.extractLsb' 11 2 = 2#2 ∧ f.getLsbD 10 = decide (b = 1))
    ∧ (s.freeze.heldBy p = none → (∃ w ∈ s.freeze.waiting, w.port = p) → f.extractLsb' 11 2 = 1#2)
    ∧ (s.freeze.heldBy p = none → (∀ w ∈ s.freeze.waiting, w.port ≠ p) → f.extractLsb' 11 2 = 0#2)
    ∧ f.extractLsb' 8 2 = BitVec.ofNat 2 (timeStateCode s.time.state) ∧ f.extractLsb' 5 3 = s.time.band
    ∧ f.extractLsb' 0 5 = 0#5

/-- The words of the RESULT item of a latest result (R60, 10.7). -/
def ResultShown (latest : Option ResultRecord) (ws : List Word) : Prop :=
  (latest = none → ws = List.replicate 7 0)
    ∧ ∀ r, latest = some r → ∃ e : Word,
        ws = e :: (pairOf r.window ++ pairOf r.epoch ++ wordsOf 2 r.ticks ++ (match r.figures with
          | .valid incs raw => incs.flatMap (wordsOf 4) ++ raw.flatMap fun x => wordsOf 4 (x % 2 ^ 64).toNat
          | .substituted incs => incs.flatMap (wordsOf 4)
          | .gap => []))
          ∧ e.extractLsb' 14 2 = (match r.figures with
            | .valid _ _ => 1#2
            | .substituted _ => 2#2
            | .gap => 3#2)
          ∧ e.getLsbD 13 = (r.incomer == .B) ∧ e.getLsbD 12 = (r.cause == .timeLimit) ∧ e.getLsbD 11 = r.limited
          ∧ e.extractLsb' 8 3 = r.band ∧ e.extractLsb' 0 8 = 0#8

/-- The words of an item that every port may read, at the head word `w` of port `p` (R60, R65, R67, R69, R178, R180, R182,
10.7). The request code of the response slot NONE is a free value (log entry 5). -/
def OpenItemShown (s : State) (p : Port) (w : Word) (ws : List Word) : Prop :=
  (∀ k : Byte, w = headWord false .port k →
      (k = 0 → StatusShown s p ws)
        ∧ (k = 3 → ((s.port p).slot = .none → ∃ x : Word, ws = [x] ∧ x.extractLsb' 0 8 = 0#8)
          ∧ (∀ c, (s.port p).slot = .inProgress c → ws = [c ++ 3#8])
          ∧ ∀ c r, (s.port p).slot = .answered c r → ws = [c ++ BitVec.ofNat 8 (responseCode r)])
        ∧ (k = 4 → ws = [BitVec.ofNat 16 ((s.port p).settings.exponent * 4 + formatCode (s.port p).settings.format),
            (s.port p).settings.enables.setWidth 16]))
    ∧ (∀ i : Incomer, w = headWord false .result (if i = .A then 0 else 1) → ResultShown (s.calc i).latest ws)
    ∧ (w = headWord false .joint 0 → ws = tableWords s.joint.committed ++ pairOf s.joint.epoch)
    ∧ (w = headWord false .joint 1 → ∀ d, s.joint.draft p = some d → ws = tableWords d.table ++ pairOf d.baseEpoch)
    ∧ (w = headWord false .joint 2 →
        (s.joint.proposal = none → ws = List.replicate 61 0 ++ [s.joint.serialCounter, 0])
          ∧ ∀ q, s.joint.proposal = some q → ws = tableWords q.table ++
              [BitVec.ofNat 16 (32768 + portCode q.proposer), q.serial, BitVec.ofNat 16 q.remaining])

/-- R60, R65, R69, R112, R153, R172, R173, R178 to R180, R182: the head word of a read of the status, the response slot, the
settings, a result or a JOINT item latches the item whole, and that of the status starts anew what is noted since it. The
word of the event status, once shifted out, clears each edge indication that it returned as set and that was not raised
after the head word, and no other, and the cold flag clears with RESTART; the word of OVERRUN and LIMITED clears those two
in the same way. A JOINT item takes an offset word. Every other word is shifted out from the latch, and past its end 0000h
with OVERRUN (the reads that have no row of their own go through STATUS_READ, log entry 3). -/
def Obligations.StatusReadClearsWhatItReturned : Prop :=
  ∀ (s : State) (p : Port), (s.port p).resetAsserted = false →
    (∀ w, AwaitsHead (s.port p) → rowOf p w = .openItem →
        ∃ y d, exec (.statusRead p (.head w)) s = .next { s.setPort p { s.port p with
            transaction := some y
            dataOut := 0xFFFF
            edgesSince := if w = headWord false .port 0 then 0 else (s.port p).edgesSince
            overrunSince := (s.port p).overrunSince && decide (w ≠ headWord false .port 0)
            limitedSince := (s.port p).limitedSince && decide (w ≠ headWord false .port 0) } with freeDraws := d }
          ∧ NewlyOpen (s.port p) y .openItem w ∧ OpenItemShown s p w (y.latch.map (·.word)))
      ∧ ∀ (x : Transaction) (w : Word), (s.port p).transaction = some x → x.kind = .openItem → x.zeros = false →
          (x.head = headWord false .port 0 → ∀ v, x.latch[x.pointer]? = some v → v.saturated = false →
            ∃ t, exec (.statusRead p (.word w)) s = .next t ∧ (t.port p).dataOut = v.word
              ∧ (x.pointer = 0 → (∀ k, (t.port p).edges.getLsbD k =
                    ((s.port p).edges.getLsbD k && !(v.word.getLsbD k && !(s.port p).edgesSince.getLsbD k)))
                  ∧ (t.port p).cold = ((s.port p).cold && (t.port p).edges.getLsbD 11)
                  ∧ (t.port p).overrun = (s.port p).overrun ∧ (t.port p).limited = (s.port p).limited)
              ∧ (x.pointer = 1 → (t.port p).edges = (s.port p).edges ∧ (t.port p).cold = (s.port p).cold
                  ∧ (t.port p).overrun = ((s.port p).overrun && !(v.word.getLsbD 15 && !(s.port p).overrunSince))
                  ∧ (t.port p).limited = ((s.port p).limited && !(v.word.getLsbD 14 && !(s.port p).limitedSince)))
              ∧ (∀ q, q ≠ p → t.port q = s.port q) ∧ t.accounts = s.accounts ∧ t.joint = s.joint
              ∧ t.freeze = s.freeze)
            ∧ (x.head.extractLsb' 8 3 = 6#3 → x.offset = none → exec (.statusRead p (.word w)) s = .next (s.setPort p
                { s.port p with transaction := some { x with offset := some w, pointer := w.toNat }, dataOut := 0 }))
            ∧ ((x.head.extractLsb' 8 3 ≠ 6#3 ∨ x.offset ≠ none) →
                (x.head.extractLsb' 0 11 ≠ 0#11 ∨ 2 ≤ x.pointer ∨ x.latch[x.pointer]? = none) →
                ∃ t, exec (.statusRead p (.word w)) s = .next t ∧ ItemWordMoved s t p x)

/-- The two words of a pending entry, the watch as it stands (R136, R137, 10.7). -/
def EntryShown (s : State) (e : PendingEntry) (a b : Word) : Prop :=
  a.extractLsb' 8 8 = BitVec.ofNat 8 e.account ∧ a.extractLsb' 6 2 = BitVec.ofNat 2 e.watch
    ∧ a.getLsbD 5 = (e.first == .fall) ∧ a.getLsbD 4 = (e.latest == .fall) ∧ a.extractLsb' 0 2 = 0#2
    ∧ (∀ c w, s.account e.account = some c → c.watches[e.watch]? = some w →
        a.getLsbD 3 = (w.signalling == .level) ∧ a.getLsbD 2 = w.above)
    ∧ b = BitVec.ofNat 16 e.count

/-- The two words of a fault record (R151, R152, 10.7); the byte of an absent field is a free value (log entry 5). -/
def FaultShown (r : FaultRecord) (ws : List Word) : Prop :=
  (r.content = none → ws = [if r.overflow then 0x4000 else 0, 0])
    ∧ ∀ f, r.content = some f → ∃ a b : Word, ws = [a, b] ∧ a.getLsbD 15 = true ∧ a.getLsbD 14 = r.overflow
        ∧ a.extractLsb' 11 3 = BitVec.ofNat 3 (faultKindCode f.kind) ∧ a.getLsbD 10 = f.request
        ∧ a.getLsbD 9 = f.account.isSome ∧ a.getLsbD 8 = f.entry.isSome ∧ a.extractLsb' 0 8 = 0#8
        ∧ (∀ n, f.account = some n → b.extractLsb' 8 8 = n) ∧ ∀ n, f.entry = some n → b.extractLsb' 0 8 = n

/-- A port after a fault is written: into an empty record, or as OVERFLOW on a full one (R151). -/
def faultWritten (x : PortState) (f : FaultInfo) : PortState :=
  { x with
    fault := if x.fault.content = none then { x.fault with content := some f } else { x.fault with overflow := true }
    faultSince := true }

/-- The words of a bin's value in a readout format, most significant first, the pinned mark in the top bit; a COMPACT
quotient above 2,147,483,647 reads as that number and is marked at its first word (R175, R176). -/
def BinShown (f : Format) (k : Nat) (pinned : Bool) (value : Nat) (ws : List OutWord) : Prop :=
  ∀ shown, shown = (ws.map (·.word)).foldl (fun acc d => acc * 65536 + d.toNat) 0 →
    (f = .full → ws.length = 4 ∧ shown = pinned.toNat * 2 ^ 63 + value ∧ ∀ v ∈ ws, v.saturated = false)
      ∧ (f = .whole → ws.length = 3 ∧ shown = pinned.toNat * 2 ^ 47 + value / 65536 ∧ ∀ v ∈ ws, v.saturated = false)
      ∧ (f = .compact → ws.length = 2
          ∧ shown = pinned.toNat * 2 ^ 31 + min 2147483647 (value / (65536 * 10 ^ k))
          ∧ ws.map (·.saturated) = [decide (2147483647 < value / (65536 * 10 ^ k)), false])

/-- R136, R137, R151, R152, R172 to R174: the head word of a pending-set read latches the number of entries and two words for
each, with the watches as they stand, and starts the crossings since it anew; the head word of a fault-record read latches
the record and notes no fault since; further words are shifted out from the latch. At its end a read of the pending set
removes each entry read to its last word that is EDGE, or LEVEL and BELOW, restarts a LEVEL one that is ABOVE, and keeps
what was crossed after the head word; a read of the fault record to its last word empties it, unless a fault was written
after the head word. -/
def Obligations.PendingSetAndFaultReadsEmptyWhatWasRead : Prop :=
  ∀ (s : State) (p : Port), (s.port p).resetAsserted = false →
    (∀ w, AwaitsHead (s.port p) →
        (rowOf p w = .pendingSet → (s.port p).Law → ∃ y, exec (.pendingSetRead p (.head w)) s = .next (s.setPort p
              { s.port p with transaction := some y, dataOut := 0xFFFF
                              pendingSet := (s.port p).pendingSet.map fun e => { e with sinceCount := 0 } })
            ∧ NewlyOpen (s.port p) y .pendingSet w
            ∧ y.keys = (s.port p).pendingSet.map (fun e => (e.account, e.watch))
            ∧ y.latch.length = 1 + 2 * (s.port p).pendingSet.length
            ∧ (y.latch.map (·.word))[0]? = some (BitVec.ofNat 16 (s.port p).pendingSet.length)
            ∧ ∀ (k : Nat) (e : PendingEntry), (s.port p).pendingSet[k]? = some e →
                ∃ a b, (y.latch.map (·.word))[2 * k + 1]? = some a ∧ (y.latch.map (·.word))[2 * k + 2]? = some b
                  ∧ EntryShown s e a b)
          ∧ (rowOf p w = .faultRecord → ∃ y d, exec (.faultRecordRead p (.head w)) s = .next { s.setPort p
                { s.port p with transaction := some y, dataOut := 0xFFFF, faultSince := false } with freeDraws := d }
              ∧ NewlyOpen (s.port p) y .faultRecord w ∧ FaultShown (s.port p).fault (y.latch.map (·.word))))
      ∧ ∀ x : Transaction, (s.port p).transaction = some x →
          (x.kind = .pendingSet → exec (.pendingSetRead p .rise) s = .next (s.setPort p { s.port p with
              select := .high
              transaction := none
              pendingSet := (s.port p).pendingSet.filterMap fun e =>
                if (e.account, e.watch) ∈ x.keys.take ((x.moved - 1) / 2) then
                  if 0 < e.sinceCount then some { e with first := e.sinceFirst, count := e.sinceCount }
                  else match (s.account e.account).bind fun a => a.watches[e.watch]? with
                    | some w =>
                      if w.signalling = .level ∧ w.above = true then some { e with first := e.latest, count := 0 }
                      else none
                    | none => none
                else some e }))
            ∧ (x.kind = .faultRecord → exec (.faultRecordRead p .rise) s = .next (s.setPort p { s.port p with
                select := .high
                transaction := none
                fault := if 2 ≤ x.moved ∧ (s.port p).faultSince = false then { content := none, overflow := false }
                  else (s.port p).fault }))
            ∧ ∀ w, (x.kind = .pendingSet → ∃ t, exec (.pendingSetRead p (.word w)) s = .next t ∧ ItemWordMoved s t p x)
                ∧ (x.kind = .faultRecord →
                    ∃ t, exec (.faultRecordRead p (.word w)) s = .next t ∧ ItemWordMoved s t p x)

/-- Port state `x` in transaction `y` with the word `v` shifted out: a saturated COMPACT value sets LIMITED (R173, R176). -/
def wordOut (x : PortState) (y : Transaction) (v : OutWord) : PortState :=
  { x with transaction := some y
           dataOut := v.word
           limited := x.limited || v.saturated
           limitedSince := x.limitedSince || v.saturated }

/-- R103, R143 to R147, R172, R173: the head word of an ACCOUNT read is checked at the directory level; a check that
fails writes its fault and leaves every further word 0000h; one that passes latches the item's 102 words, which are
shifted out one by one, and past the last 0000h with OVERRUN. -/
def Obligations.AccountReadIsCheckedThenShifted : Prop :=
  ∀ (s : State) (p : Port) (w : Word) (n : Nat), (s.port p).resetAsserted = false →
    n = (w.extractLsb' 0 8).toNat →
    (AwaitsHead (s.port p) → rowOf p w = .account → ∃ t y, exec (.accountRead p (.head w)) s = .next t
        ∧ (t.port p).transaction = some y ∧ (t.port p).dataOut = 0xFFFF ∧ t.accounts = s.accounts
        ∧ (s.account n = none → y.zeros = true ∧ ((s.port p).fault.content = none → (t.port p).fault.content =
            some { kind := .absentAccount, request := false, account := some (w.extractLsb' 0 8), entry := none }))
        ∧ ∀ a, s.account n = some a →
            (p ≠ ownerOf n → a.rightOf n p = .none →
              y.zeros = true ∧ ((s.port p).fault.content = none → (t.port p).fault.content =
                some { kind := .rights, request := false, account := some (w.extractLsb' 0 8), entry := none }))
              ∧ ((p = ownerOf n ∨ a.rightOf n p ≠ .none) →
                y.zeros = false ∧ y.opened = true ∧ y.pointer = 0 ∧ (t.port p).fault = (s.port p).fault
                  ∧ y.latch.map (·.word) = accountWords s.absent n p a ∧ y.latch.length = 102))
      ∧ ∀ x y, (s.port p).transaction = some x → x.kind = .account →
          y = { x with pointer := x.pointer + 1, moved := x.moved + 1 } →
          (x.zeros = true → exec (.accountRead p (.word w)) s = .next (s.setPort p
              { s.port p with transaction := some y, dataOut := 0 }))
            ∧ (x.zeros = false → ∀ v, x.latch[x.pointer]? = some v → v.saturated = false →
                exec (.accountRead p (.word w)) s = .next (s.setPort p
                  { s.port p with transaction := some y, dataOut := v.word }))
            ∧ (x.zeros = false → x.latch[x.pointer]? = none → exec (.accountRead p (.word w)) s = .next (s.setPort p
                { s.port p with transaction := some y, dataOut := 0, overrun := true, overrunSince := true }))

/-- R125, R126, R144 to R147, R173, R175, R176: the offset word of a ring walk starts it at that record, oldest first; each record is
checked at the directory level and latched as its first word moves, the record sought being the oldest one numbered at or
after the sequence sought; a WRITING record reads as NOT_READY with its sequence number alone and ends the walk; after its
last word the walk goes on or ends; and past the end 0000h is shifted out with OVERRUN. The bins of a record stand in the
readout format of the transaction, those withheld as 0000h words, and a saturated COMPACT value sets LIMITED as its first
word is shifted out (R176; the first of the two is the model's choice, log entry 10). Three points are the model's
reading: a slot without an account fails the offset word with ABSENT_ENTRY (log entry 19), a starting record that has left
the ring is sought by its sequence (log entry 18), and the directory check is made before the end is found when the record
sought has left the ring and none follows (log entry 32). -/
def Obligations.RingWalkSeeksTheNextRecord : Prop :=
  ∀ (s : State) (p : Port) (x : Transaction) (w : Word) (n : Nat), (s.port p).resetAsserted = false →
    (s.port p).transaction = some x → x.kind = .history → x.zeros = false → n = (x.head.extractLsb' 0 8).toNat →
    (x.offset = none →
        (∀ a h, s.account n = some a → a.ring.records[w.toNat]? = some h → exec (.ringWalk p (.word w)) s =
            .next (s.setPort p { s.port p with
              transaction := some { x with offset := some w, seek := some h.header.sequence }, dataOut := 0 }))
          ∧ ((s.account n = none ∨ ∃ a, s.account n = some a ∧ a.ring.records[w.toNat]? = none) →
              ∃ t y, exec (.ringWalk p (.word w)) s = .next t ∧ (t.port p).transaction = some y ∧ y.zeros = true
                ∧ (t.port p).dataOut = 0 ∧ t.accounts = s.accounts
                ∧ (x.faulted = false → (s.port p).fault.content = none → (t.port p).fault.content = some
                    { kind := .absentEntry, request := false, account := some (x.head.extractLsb' 0 8),
                      entry := some (BitVec.ofNat 8 (min w.toNat 255)) })))
      ∧ ∀ o, x.offset = some o → (∀ v vs, x.latch = v :: vs →
            ∃ y, exec (.ringWalk p (.word w)) s = .next (s.setPort p (wordOut (s.port p) y v))
              ∧ y = { x with latch := vs, pointer := x.pointer + 1, moved := x.moved + 1, seek := y.seek }
              ∧ (vs ≠ [] → y.seek = x.seek)
              ∧ (vs = [] → ∀ q, x.seek = some q → ∀ a, s.account n = some a → y.seek =
                  if a.ring.records.any (fun h => decide ((h.header.sequence - q).toNat < 2 ^ 31)) then some q else none))
          ∧ (x.latch = [] → x.seek = none → ∃ t, exec (.ringWalk p (.word w)) s = .next t ∧ (t.port p).dataOut = 0
              ∧ (t.port p).overrun = true)
          ∧ ∀ q, x.latch = [] → x.seek = some q →
              ((s.account n = none ∨ ∃ a, s.account n = some a ∧ p ≠ ownerOf n ∧ a.rightOf n p = .none) →
                ∃ t y, exec (.ringWalk p (.word w)) s = .next t ∧ (t.port p).transaction = some y ∧ y.zeros = true
                  ∧ y.faulted = true ∧ (t.port p).dataOut = 0 ∧ (t.port p).overrun = (s.port p).overrun
                  ∧ (x.faulted = false → (s.port p).fault.content = none → (t.port p).fault.content = some
                      { kind := if s.account n = none then .absentAccount else .rights, request := false,
                        account := some (x.head.extractLsb' 0 8), entry := none }))
                ∧ ∀ a, s.account n = some a → (p = ownerOf n ∨ a.rightOf n p ≠ .none) →
                    ∃ t y, exec (.ringWalk p (.word w)) s = .next t ∧ (t.port p).transaction = some y
                      ∧ (t.port p).fault = (s.port p).fault ∧ t.accounts = s.accounts
                      ∧ (a.ring.records.find? (fun h => decide ((h.header.sequence - q).toNat < 2 ^ 31)) = none →
                          y.seek = none ∧ (t.port p).dataOut = 0 ∧ (t.port p).overrun = true)
                      ∧ ∀ h, a.ring.records.find? (fun h => decide ((h.header.sequence - q).toNat < 2 ^ 31)) = some h →
                          (h.writing = true → y.seek = none ∧ (t.port p).dataOut = 0x8000
                              ∧ y.latch.map (·.word) =
                                [0, 0, h.header.sequence.extractLsb' 16 16, h.header.sequence.extractLsb' 0 16]
                                  ++ List.replicate 33 0)
                            ∧ (h.writing = false → y.seek = some (h.header.sequence + 1)
                              ∧ (∃ v, v :: y.latch = recordWords
                                  (Config.absentRecordWord n h.header.sequence h.endSecond) x.format x.exponent
                                  (fun i => p != ownerOf n && a.hides i) h ∧ (t.port p).dataOut = v.word)
                              ∧ (t.port p).dataOut = fieldAt 13 (closeCauseCode h.cause) ||| fieldAt 0 h.values.length
                              ∧ y.latch.length = 37 + binWidth x.format * h.values.length
                              ∧ ∀ (i value : Nat) (ws : List OutWord), h.values[i]? = some value → value < 2 ^ 63 →
                                  ws = (y.latch.drop (37 + binWidth x.format * i)).take (binWidth x.format) →
                                  ((p = ownerOf n ∨ a.hides i = false) → BinShown x.format x.exponent false value ws)
                                    ∧ ((p ≠ ownerOf n ∧ a.hides i = true) →
                                      ws = List.replicate (binWidth x.format) { word := 0, saturated := false }))

/-- The fault that the checks of R149 find at port `p`, absent when they pass: NOT_HELD without a buffer, and ABSENT_ACCOUNT
or RIGHTS for a non-owner that may not read the copy's account. -/
def CopyRefused (s : State) (p : Port) (f : Option FaultInfo) : Prop :=
  (s.freeze.heldBy p = none → f = some { kind := .notHeld, request := false, account := none, entry := none })
    ∧ ∀ b h, s.freeze.heldBy p = some b → (s.freeze.buffer b).held = some h →
        ((p = ownerOf h.copy.account ∨ ∃ a, s.account h.copy.account = some a ∧ a.rightOf h.copy.account p ≠ .none) →
            f = none)
          ∧ ((p ≠ ownerOf h.copy.account
              ∧ ∀ a, s.account h.copy.account = some a → a.rightOf h.copy.account p = .none) →
            f = some { kind := if s.account h.copy.account = none then .absentAccount else .rights, request := false,
                       account := some (BitVec.ofNat 8 (min h.copy.account 255)), entry := none })

/-- R145, R146, R149, R160, R164 to R166, R172, R173, R176: the head word of a FREEZE read is refused with NOT_HELD to a port
that holds no buffer, and with ABSENT_ACCOUNT or RIGHTS to a non-owner that may not read the copy's account; a read so
refused is not open (the model's reading, DEDUCED, log entry 23). The same checks are made again at the copy's first word,
where a failure writes its fault and leaves that word and every later one 0000h, as after an UNFREEZE; when they pass, the
copy is latched. The words after the first are shifted out of the latch, a saturated COMPACT value setting LIMITED, and
past the last one 0000h with OVERRUN. Each read of a copy returns the same content apart from the timer, the mark and the
waiting count, which stand in its first two words, and from the bins closed at the read. The end of the transaction makes
the reclaim that the buffer's mark owes when a port waits. -/
def Obligations.FreezeReadShowsTheHeldCopy : Prop :=
  (∀ (s u : State) (b c : Fin 2) (h g : Holding) (p : Port) (f : Format) (k : Nat), g.copy = h.copy →
      (∀ i x, copyCloses u h.copy.account p i x = copyCloses s h.copy.account p i x) →
      (copyWords u c g p f k).drop 2 = (copyWords s b h p f k).drop 2)
    ∧ ∀ (s : State) (p : Port) (f : Option FaultInfo), (s.port p).resetAsserted = false → CopyRefused s p f →
    (∀ w, AwaitsHead (s.port p) → rowOf p w = .freeze →
        (∀ i, f = some i → ∃ y, exec (.freezeRead p (.head w)) s = .next (s.setPort p
              { faultWritten (s.port p) i with transaction := some y, dataOut := 0xFFFF })
            ∧ y.kind = .freeze ∧ y.head = w ∧ y.zeros = true ∧ y.opened = false)
          ∧ ∀ b, s.freeze.heldBy p = some b → f = none → (s.freeze.buffer b).held ≠ none →
              ∃ y, exec (.freezeRead p (.head w)) s = .next (s.setPort p
                  { s.port p with transaction := some y, dataOut := 0xFFFF })
                ∧ NewlyOpen (s.port p) y .freeze w ∧ y.latch = [])
      ∧ ∀ x, (s.port p).transaction = some x → x.kind = .freeze →
          (∀ w, ∀ moved : Transaction → Transaction,
            moved = (fun y => { y with pointer := y.pointer + 1, moved := y.moved + 1 }) →
            (x.zeros = true → exec (.freezeRead p (.word w)) s = .next (s.setPort p
                { s.port p with transaction := some (moved x), dataOut := 0 }))
              ∧ (x.zeros = false → x.entry = 0 →
                (∀ i, f = some i → exec (.freezeRead p (.word w)) s = .next (s.setPort p
                    { (if x.faulted then s.port p else faultWritten (s.port p) i) with
                      transaction := some (moved { x with zeros := true, faulted := true })
                      dataOut := 0 }))
                  ∧ ∀ b h, s.freeze.heldBy p = some b → (s.freeze.buffer b).held = some h → f = none →
                      ∃ v vs, v :: vs = copyWords s b h p x.format x.exponent ∧ v.saturated = false
                        ∧ exec (.freezeRead p (.word w)) s = .next (s.setPort p
                          { s.port p with transaction := some (moved { x with entry := 1, latch := vs })
                                          dataOut := v.word }))
              ∧ (x.zeros = false → x.entry ≠ 0 →
                (∀ v vs, x.latch = v :: vs → exec (.freezeRead p (.word w)) s = .next (s.setPort p
                    (wordOut (s.port p) (moved { x with latch := vs }) v)))
                  ∧ (x.latch = [] → exec (.freezeRead p (.word w)) s = .next (s.setPort p { s.port p with
                    transaction := some (moved x), dataOut := 0, overrun := true, overrunSince := true }))))
            ∧ (s.freeze.heldBy p = none →
                exec (.freezeRead p .rise) s = .next (s.setPort p
                  { s.port p with select := .high, transaction := none }))
            ∧ ∀ b h, s.freeze.heldBy p = some b → (s.freeze.buffer b).held = some h →
                ∃ t, exec (.freezeRead p .rise) s = .next t ∧ (t.port p).transaction = none ∧ t.accounts = s.accounts
                  ∧ (h.reclaimDue = false → t.freeze = s.freeze)
                  ∧ (h.reclaimDue = true → ∀ m, m = (s.setPort p { s.port p with select := .high, transaction := none }).setFreeze
                        (s.freeze.setBuffer b { timer := (s.freeze.buffer b).timer,
                                                held := some { h with reclaimDue := false } }) →
                      (s.freeze.waiting = [] → t = m)
                        ∧ ∀ e rest, s.freeze.waiting = e :: rest → Reclaimed m t b p e rest)

/-- R144 to R147, R173, R175, R176: the head word of a BINS or HISTORY read is checked at the directory level, and the offset
word of a BINS read against the bin count, an OWNER_ONLY bin passing there. At the first word of a bin, checked then and
there, stand the directory level, the end of the bin list and the bin's visibility; the bin is shifted out in the readout
format of the transaction, FULL, WHOLE or COMPACT, with its pinned mark in the top bit, and a saturated COMPACT value sets
LIMITED. Once the pointer has passed the last bin, every further word is 0000h with OVERRUN; a bin whose index has reached
the bin count of a slot opened again with fewer bins is still checked at its first word, and lies past the end when the
directory level passes. Once the slot has no account, every offset word passes, and the first bin's own check fails with
ABSENT_ACCOUNT (R145; that an index of any size passes there is the model's reading, DEDUCED, log entry 19). LIMITED is set
at the first of the two words (log entry 10), and a bin that was the last at its first word is past the end at its last word
unless the account then has a further bin (log entry 31). -/
def Obligations.BinsReadChecksEachBin : Prop :=
  (∀ (s : State) (p : Port) (w : Word) (n : Nat) (k : TxKind) (c : TxEvent → Instr), (s.port p).resetAsserted = false →
      AwaitsHead (s.port p) → (k = .bins ∨ k = .history) → rowOf p w = k →
      c = (if k = .bins then Instr.binsRead p else Instr.ringWalk p) → n = (w.extractLsb' 0 8).toNat →
      ((s.account n = none ∨ ∃ a, s.account n = some a ∧ p ≠ ownerOf n ∧ a.rightOf n p = .none) →
          ∃ y, exec (c (.head w)) s = .next (s.setPort p { faultWritten (s.port p)
                { kind := if s.account n = none then .absentAccount else .rights, request := false,
                  account := some (w.extractLsb' 0 8), entry := none } with
              transaction := some y, dataOut := 0xFFFF })
            ∧ y.kind = k ∧ y.head = w ∧ y.zeros = true ∧ y.opened = false)
        ∧ ∀ a, s.account n = some a → (p = ownerOf n ∨ a.rightOf n p ≠ .none) →
            ∃ y, exec (c (.head w)) s = .next (s.setPort p
                { s.port p with transaction := some y, dataOut := 0xFFFF })
              ∧ NewlyOpen (s.port p) y k w ∧ y.latch = [])
    ∧ ∀ (s : State) (p : Port) (x : Transaction) (w : Word) (n : Nat), (s.port p).resetAsserted = false →
        (s.port p).transaction = some x → x.kind = .bins → n = (x.head.extractLsb' 0 8).toNat →
        ∀ moved : Transaction → Transaction,
          moved = (fun y => { y with pointer := y.pointer + 1, moved := y.moved + 1 }) →
        (x.zeros = true → exec (.binsRead p (.word w)) s = .next (s.setPort p
            { s.port p with transaction := some (moved x), dataOut := 0 }))
          ∧ (x.zeros = false → x.offset = none →
              ((∀ a, s.account n = some a → w.toNat < a.bins.length) → exec (.binsRead p (.word w)) s = .next (s.setPort p
                  { s.port p with transaction := some { x with offset := some w, entry := w.toNat }, dataOut := 0 }))
                ∧ ((∃ a, s.account n = some a ∧ a.bins.length ≤ w.toNat) →
                  exec (.binsRead p (.word w)) s = .next (s.setPort p
                    { (if x.faulted then s.port p else faultWritten (s.port p)
                        { kind := .absentEntry, request := false, account := some (x.head.extractLsb' 0 8),
                          entry := some (BitVec.ofNat 8 (min w.toNat 255)) }) with
                      transaction := some { x with zeros := true, faulted := true, offset := some w }
                      dataOut := 0 })))
          ∧ (x.zeros = false → x.offset ≠ none → x.latch = [] →
              (x.past = true → exec (.binsRead p (.word w)) s = .next (s.setPort p { s.port p with
                  transaction := some (moved x), dataOut := 0, overrun := true, overrunSince := true }))
                ∧ (x.past = false →
                  ((s.account n = none ∨ ∃ a, s.account n = some a ∧ p ≠ ownerOf n ∧ a.rightOf n p = .none) →
                    exec (.binsRead p (.word w)) s = .next (s.setPort p
                      { (if x.faulted then s.port p else faultWritten (s.port p)
                          { kind := if s.account n = none then .absentAccount else .rights, request := false,
                            account := some (x.head.extractLsb' 0 8), entry := none }) with
                        transaction := some (moved { x with zeros := true, faulted := true })
                        dataOut := 0 }))
                    ∧ ∀ a, s.account n = some a → (p = ownerOf n ∨ a.rightOf n p ≠ .none) →
                        (a.bins[x.entry]? = none → exec (.binsRead p (.word w)) s = .next (s.setPort p { s.port p with
                            transaction := some (moved { x with past := true })
                            dataOut := 0, overrun := true, overrunSince := true }))
                          ∧ ∀ b y, a.bins[x.entry]? = some b →
                              y = moved { x with entry := x.entry + 1
                                                 past := decide (a.bins.length ≤ x.entry + 1) } →
                              ((p ≠ ownerOf n ∧ b.ownerOnly = true) → exec (.binsRead p (.word w)) s = .next (s.setPort p
                                  { (if x.faulted then s.port p else faultWritten (s.port p)
                                      { kind := .rights, request := false, account := some (x.head.extractLsb' 0 8),
                                        entry := some (BitVec.ofNat 8 (min x.entry 255)) }) with
                                    transaction := some { y with
                                      faulted := true
                                      latch := List.replicate (binWidth x.format - 1) { word := 0, saturated := false } }
                                    dataOut := 0 }))
                                ∧ (¬(p ≠ ownerOf n ∧ b.ownerOnly = true) → b.value < 2 ^ 63 →
                                  ∃ v vs, BinShown x.format x.exponent b.pinned b.value (v :: vs)
                                    ∧ exec (.binsRead p (.word w)) s = .next (s.setPort p
                                        (wordOut (s.port p) { y with latch := vs } v)))))
          ∧ (x.zeros = false → x.offset ≠ none → ∀ v vs z, x.latch = v :: vs →
              (z = true ↔ x.past = true ∧ (vs = [] → ∀ a, s.account n = some a → a.bins.length ≤ x.entry)) →
              exec (.binsRead p (.word w)) s = .next (s.setPort p
                (wordOut (s.port p) (moved { x with latch := vs, past := z }) v)))

/-- The data words of the record of a request code, given the words written; absent for a code that names no request
(R177, 10.7). -/
def recordLength (code : Nat) (ws : List Word) : Option Nat :=
  match code with
  | 1 =>
    let n := (ws.getD 2 0).toNat % 64
    some (8 + if 40 < n then 0 else (n + 1) / 2)
  | 2 => some 5
  | 3 | 4 | 5 | 6 => some 1
  | 7 => some 3
  | 8 => some 11
  | 9 | 10 => some 1
  | 11 | 12 | 13 | 15 => some 0
  | 14 => some 1
  | 16 => some 2
  | 17 => some 1
  | 18 => some 2
  | _ => none

/-- R173, R177, R178, 10.7: each data word joins the record up to the length of the request, an OPEN_ACCOUNT record taking one
word for two bin codes beside its eight; a word beyond the length is ignored and sets OVERRUN. At the rise of chip select a
record is refused with UNKNOWN, INVALID or BUSY, in that order, or becomes the request in flight with its code IN_PROGRESS
in the response slot. -/
def Obligations.RequestRecordIsJudgedAtItsEnd : Prop :=
  ∀ (s : State) (p : Port) (x : Transaction) (code : Byte), (s.port p).resetAsserted = false →
    (s.port p).transaction = some x → x.kind = .request → code = x.head.extractLsb' 0 8 →
    (recordLength code.toNat x.words = none → exec (.requestRecord p .rise) s = .next (s.setPort p
        { s.port p with select := .high, transaction := none, slot := .answered code .unknown }))
      ∧ ∀ m, recordLength code.toNat x.words = some m →
          (x.words.length < m → exec (.requestRecord p .rise) s = .next (s.setPort p
              { s.port p with select := .high, transaction := none, slot := .answered code .invalid }))
            ∧ (m ≤ x.words.length → (s.port p).inFlight ≠ none → exec (.requestRecord p .rise) s = .next (s.setPort p
                { s.port p with select := .high, transaction := none, slot := .answered code .busy }))
            ∧ (m ≤ x.words.length → (s.port p).inFlight = none → exec (.requestRecord p .rise) s = .next (s.setPort p
                { s.port p with select := .high, transaction := none, slot := .inProgress code,
                                inFlight := some { code := code, words := x.words } }))
            ∧ ∀ w y, y = { x with pointer := x.pointer + 1, moved := x.moved + 1 } →
                (x.words.length < m → exec (.requestRecord p (.word w)) s = .next (s.setPort p
                    { s.port p with transaction := some { y with words := x.words ++ [w] }, dataOut := 0 }))
                  ∧ (m ≤ x.words.length → exec (.requestRecord p (.word w)) s = .next (s.setPort p
                      { s.port p with transaction := some y, dataOut := 0, overrun := true, overrunSince := true }))

/-- R77, R141, R154, R161, R162, R168, R181 to R183: SET_PORT replaces the settings or is INVALID; a port reset clears its
port's state, ends its proposal and reloads its draft, gives up its freeze buffer, which becomes FREE or passes to the head
of the list, or its place on the list, with the reload when the list becomes empty, and leaves the other ports as they are
but for what the passing gives; chip select, when low, frames no transaction until it has risen, and the deassertion lets
the port take transactions again from the next fall. The event line of a port is low
exactly while an indication stands whose enable is set, and so high after a reset. -/
def Obligations.SetPortAndPortReset : Prop :=
  (∀ (s : State) (p : Port) (r : Request) (f k : Nat), s.inFlight p 18 r → f = ((r.word 0).extractLsb' 0 2).toNat →
      k = ((r.word 0).extractLsb' 2 3).toNat →
      ((f = 3 ∨ 6 < k) → exec (.setPort p) s = .next (s.respond p r.code .invalid))
        ∧ (f ≠ 3 → k ≤ 6 → ∃ g, formatCode g = f ∧ exec (.setPort p) s = .next ((s.setPort p { s.port p with
            settings := { format := g, exponent := k, enables := (r.word 1).extractLsb' 0 12 } }).respond p r.code .done)))
    ∧ (∀ (s : State) (p : Port), s.eventLineLow p = true ↔
        ∃ k, (s.port p).settings.enables.getLsbD k = true ∧ IndicationStands s p k)
    ∧ (∀ (s : State) (p : Port), ∃ t m, exec (.portReset p) s = .next t ∧ GivenUp s m p ∧ t.freeze = m.freeze
        ∧ t.freeDraws = m.freeDraws ∧ ∀ k, k ≠ p → t.port k = m.port k)
    ∧ (∀ (s : State) (p : Port), s.FreezeLaw → ∃ t, exec (.portReset p) s = .next t
        ∧ t.port p = { PortState.start false true (if (s.port p).select = .high then .high else .ignored) with
            edges := 0, edgesSince := 0 }
        ∧ t.eventLineLow p = false ∧ t.freeze.heldBy p = none ∧ (∀ w ∈ t.freeze.waiting, w.port ≠ p)
        ∧ (∀ q, s.joint.proposal = some q → t.joint.proposal = if q.proposer = p then none else some q)
        ∧ (∀ d, t.joint.draft p = some d → d = { table := s.joint.committed, baseEpoch := s.joint.epoch })
        ∧ (∀ k, k ≠ p → t.joint.draft k = s.joint.draft k)
        ∧ t.joint.committed = s.joint.committed ∧ t.joint.epoch = s.joint.epoch
        ∧ t.joint.serialCounter = s.joint.serialCounter
        ∧ (∀ k, k ≠ p → (t.port k).slot = (s.port k).slot ∧ (t.port k).settings = (s.port k).settings
            ∧ (t.port k).inFlight = (s.port k).inFlight ∧ (t.port k).transaction = (s.port k).transaction
            ∧ (t.port k).select = (s.port k).select
            ∧ (t.port k).pendingSet = (s.port k).pendingSet ∧ (t.port k).fault = (s.port k).fault)
        ∧ t.accounts = s.accounts ∧ t.time = s.time ∧ t.receivers = s.receivers ∧ t.assemblers = s.assemblers
        ∧ t.calculator = s.calculator ∧ t.posting = s.posting ∧ t.engine = s.engine)
    ∧ ∀ (s : State) (p : Port), exec (.portResetDeassertion p) s =
        .next (s.setPort p { s.port p with resetAsserted := false })

/-! ### Supply interruption and retained state -/

/-- R17, R186, R188: the first assertion of supply-falling interrupts every open header and discards every open window, and
later ones do nothing; the loss of the retention supply clears the retention-valid mark. -/
def Obligations.SupplyFallingInterruptsOnce : Prop :=
  ∀ s : State,
    (s.retention.interrupted = true → exec .supplyFalling s = .next s)
      ∧ (s.retention.interrupted = false → ∃ t, exec .supplyFalling s = .next t
          ∧ t.retention = { s.retention with interrupted := true, interruptedMark := true }
          ∧ (∀ n, t.account n = (s.account n).map fun a => { a with
              header := { a.header with interruptions := min 65535 (a.header.interruptions + 1) } })
          ∧ (∀ i, t.assembler i = { s.assembler i with
              state := if (s.assembler i).state = .disabled then .disabled else .awaiting })
          ∧ t.waitList = s.waitList ∧ t.engine = s.engine ∧ t.posting = s.posting ∧ t.joint = s.joint
          ∧ t.time = s.time ∧ t.freeze = s.freeze ∧ t.ports = s.ports ∧ t.receivers = s.receivers)
      ∧ exec .retentionLoss s = .next { s with retention := { s.retention with valid := false } }

/-- R18, R38, R62, R78, R105, R128, R141, R154, R169, R184, R187 to R190: a power-on reset with the retention-valid mark
set is a warm start, which keeps the accounts with TIME_SUSPECT and FREE_RUNNING, the table, its epoch, the serial
counter, the second count and the band, and starts the rest afresh; with the mark clear it is a cold start, which keeps
nothing. The word on the data output, the levels of the reset pins and of chip select and the tick count are the model's
choices (log entries 14, 15 and 17), and that a chip select low across it frames no transaction until it has risen is DEDUCED
(log entry 35). -/
def Obligations.PowerOnResetStartsWarmOrCold : Prop :=
  ∀ s : State,
    (s.retention.valid = true → ∃ t, exec .powerOnReset s = .next t
        ∧ (∀ n, t.account n = (s.account n).map fun a => { a with
            header := { a.header with
              timeSuspect := true, freeRunning := true
              interruptions := if s.retention.interruptedMark then a.header.interruptions
                else min 65535 (a.header.interruptions + 1) }
            timerDue := false })
        ∧ t.joint = { s.joint with
            proposal := none
            draftU := { table := s.joint.committed, baseEpoch := s.joint.epoch }
            draftF := { table := s.joint.committed, baseEpoch := s.joint.epoch } }
        ∧ t.time = { State.reset.time with second := s.time.second, band := s.time.band }
        ∧ (∀ i, (t.assembler i).state = if s.joint.committed.enabled.get i then .awaiting else .disabled)
        ∧ (∀ i, (t.assembler i).bank0.held = false ∧ (t.assembler i).bank1.held = false
            ∧ (t.assembler i).filling = 0 ∧ (t.assembler i).nextWindow = 0)
        ∧ (∀ p, t.port p = { State.reset.port p with
            cold := false, resetAsserted := (s.port p).resetAsserted
            select := if (s.port p).select = .high then .high else .ignored })
        ∧ t.receivers = State.reset.receivers ∧ t.waitList = [] ∧ t.engine = State.reset.engine
        ∧ t.calculator = State.reset.calculator ∧ t.posting = State.reset.posting ∧ t.freeze = State.reset.freeze
        ∧ t.retention = State.reset.retention)
      ∧ (s.retention.valid = false → ∃ t, exec .powerOnReset s = .next t
          ∧ (∀ p, t.port p = { State.reset.port p with
              resetAsserted := (s.port p).resetAsserted
              select := if (s.port p).select = .high then .high else .ignored })
          ∧ t = { State.reset with pending := s.pending, now := s.now, freeDraws := s.freeDraws, ports := t.ports })

/-- R18, R66, R128, R154, R169, R184, R190: the machine right after reset keeps every law. -/
def Obligations.ResetKeepsEveryLaw : Prop :=
  State.reset.ReceiverLaw ∧ State.reset.PathLaw ∧ State.reset.JointLaw ∧ State.reset.AccountLaw
    ∧ State.reset.RouteLaw ∧ State.reset.PortLaw ∧ State.reset.FreezeLaw
end

