-- ==== Sys2Proof/Laws/State.lean ====
section
/-! SUPPORT. The small lemmas of the state: what each update leaves of every field and of every accessor, and reading
back what an update wrote. -/

namespace Sys2Proof.Machine

/-! ### Things held once per port, per incomer -/

@[simp] theorem PerPort.get_set {α : Type} (x : PerPort α) (p q : Port) (a : α) :
    (x.set p a).get q = if q = p then a else x.get q := by cases p <;> cases q <;> rfl

@[simp] theorem PerPort.get_map {α β : Type} (f : α → β) (x : PerPort α) (p : Port) :
    (x.map f).get p = f (x.get p) := by cases p <;> rfl

@[simp] theorem PerIncomer.get_set {α : Type} (x : PerIncomer α) (i k : Incomer) (a : α) :
    (x.set i a).get k = if k = i then a else x.get k := by cases i <;> cases k <;> rfl

@[simp] theorem PerIncomer.get_map {α β : Type} (f : α → β) (x : PerIncomer α) (i : Incomer) :
    (x.map f).get i = f (x.get i) := by cases i <;> rfl

/-! ### Reading back -/

@[simp] theorem State.setPort_port (s : State) (p q : Port) (ps : PortState) :
    (s.setPort p ps).port q = if q = p then ps else s.port q := by simp [State.setPort, State.port]

@[simp] theorem State.updPort_port (s : State) (p q : Port) (f : PortState → PortState) :
    (s.updPort p f).port q = if q = p then f (s.port p) else s.port q := by simp [State.updPort]

@[simp] theorem State.setReceiver_receiver (s : State) (i k : Incomer) (r : Receiver) :
    (s.setReceiver i r).receiver k = if k = i then r else s.receiver k := by simp [State.setReceiver, State.receiver]

@[simp] theorem State.setAssembler_assembler (s : State) (i k : Incomer) (a : Assembler) :
    (s.setAssembler i a).assembler k = if k = i then a else s.assembler k := by
  simp [State.setAssembler, State.assembler]

@[simp] theorem State.setCalc_calc (s : State) (i k : Incomer) (c : Calc) :
    (s.setCalc i c).calc k = if k = i then c else s.calc k := by simp [State.setCalc, State.calc]

/-- A number that names no slot has no record (R80). -/
theorem State.account_none_of_le (s : State) (n : Nat) (h : 24 ≤ n) : s.account n = none := by
  simp [State.account, h]

/-- An account that has a record has a slot number (R80). -/
theorem State.lt_of_account_some {s : State} {n : Nat} {a : Account} (h : s.account n = some a) : n < 24 := by
  by_contra hn
  simp [s.account_none_of_le n (by omega)] at h

theorem State.setAccount_account (s : State) (n m : Nat) (a : Option Account) (h : n < 24) :
    (s.setAccount n a).account m = if m = n then a else s.account m := by
  by_cases hm : m = n
  · subst hm; simp [State.setAccount, State.account, h]
  · simp [State.setAccount, State.account, hm, Ne.symm hm]

@[simp] theorem State.setAccount_account_ne (s : State) (n m : Nat) (a : Option Account) (h : m ≠ n) :
    (s.setAccount n a).account m = s.account m := by
  simp [State.setAccount, State.account, Ne.symm h]

@[simp] theorem mapVec_getElem? {α β : Type} {n : Nat} (f : α → β) (v : Vector α n) (k : Nat) :
    (mapVec f v)[k]? = (v[k]?).map f := by
  simp [mapVec, ← Vector.getElem?_toArray, ← Array.getElem?_toList, ← List.getElem?_map, ← Vector.toList_toArray]

@[simp] theorem mapVec_toList {α β : Type} {n : Nat} (f : α → β) (v : Vector α n) :
    (mapVec f v).toList = v.toList.map f := rfl

@[simp] theorem State.mapAccounts_account (s : State) (f : Account → Account) (n : Nat) :
    (s.mapAccounts f).account n = (s.account n).map f := by
  simp only [State.mapAccounts, State.account, mapVec_getElem?]
  cases s.accounts[n]? with
  | none => rfl
  | some a => cases a <;> rfl

@[simp] theorem FreezeUnit.setBuffer_buffer (u : FreezeUnit) (b c : Fin 2) (x : Buffer) :
    (u.setBuffer b x).buffer c = if c = b then x else u.buffer c := by
  match b, c with
  | 0, 0 => rfl
  | 0, 1 => rfl
  | 1, 0 => rfl
  | 1, 1 => rfl

/-! ### Writing twice -/

@[simp] theorem PerPort.set_set {α : Type} (x : PerPort α) (p : Port) (a b : α) : (x.set p a).set p b = x.set p b := by
  cases p <;> rfl

@[simp] theorem State.setPort_setPort (s : State) (p : Port) (a b : PortState) :
    (s.setPort p a).setPort p b = s.setPort p b := by simp [State.setPort]

@[simp] theorem State.setPort_same (s : State) (p : Port) : s.setPort p (s.port p) = s := by cases p <;> rfl

@[simp] theorem State.updPort_setPort (s : State) (p : Port) (a : PortState) (f : PortState → PortState) :
    (s.setPort p a).updPort p f = s.setPort p (f a) := by simp [State.updPort]

@[simp] theorem State.updPort_updPort (s : State) (p : Port) (f g : PortState → PortState) :
    (s.updPort p f).updPort p g = s.updPort p (fun ps => g (f ps)) := by simp [State.updPort]

/-! ### What `setPort` leaves and writes -/

@[simp] theorem State.setPort_pending (s : State) (p : Port) (ps : PortState) : (s.setPort p ps).pending = s.pending := rfl
@[simp] theorem State.setPort_now (s : State) (p : Port) (ps : PortState) : (s.setPort p ps).now = s.now := rfl
@[simp] theorem State.setPort_freeDraws (s : State) (p : Port) (ps : PortState) : (s.setPort p ps).freeDraws = s.freeDraws := rfl
@[simp] theorem State.setPort_receivers (s : State) (p : Port) (ps : PortState) : (s.setPort p ps).receivers = s.receivers := rfl
@[simp] theorem State.setPort_assemblers (s : State) (p : Port) (ps : PortState) : (s.setPort p ps).assemblers = s.assemblers := rfl
@[simp] theorem State.setPort_waitList (s : State) (p : Port) (ps : PortState) : (s.setPort p ps).waitList = s.waitList := rfl
@[simp] theorem State.setPort_engine (s : State) (p : Port) (ps : PortState) : (s.setPort p ps).engine = s.engine := rfl
@[simp] theorem State.setPort_calculator (s : State) (p : Port) (ps : PortState) : (s.setPort p ps).calculator = s.calculator := rfl
@[simp] theorem State.setPort_posting (s : State) (p : Port) (ps : PortState) : (s.setPort p ps).posting = s.posting := rfl
@[simp] theorem State.setPort_time (s : State) (p : Port) (ps : PortState) : (s.setPort p ps).time = s.time := rfl
@[simp] theorem State.setPort_accounts (s : State) (p : Port) (ps : PortState) : (s.setPort p ps).accounts = s.accounts := rfl
@[simp] theorem State.setPort_joint (s : State) (p : Port) (ps : PortState) : (s.setPort p ps).joint = s.joint := rfl
@[simp] theorem State.setPort_freeze (s : State) (p : Port) (ps : PortState) : (s.setPort p ps).freeze = s.freeze := rfl
@[simp] theorem State.setPort_retention (s : State) (p : Port) (ps : PortState) : (s.setPort p ps).retention = s.retention := rfl
@[simp] theorem State.setPort_receiver (s : State) (p : Port) (ps : PortState) (k : Incomer) :
    (s.setPort p ps).receiver k = s.receiver k := rfl
@[simp] theorem State.setPort_assembler (s : State) (p : Port) (ps : PortState) (k : Incomer) :
    (s.setPort p ps).assembler k = s.assembler k := rfl
@[simp] theorem State.setPort_calc (s : State) (p : Port) (ps : PortState) (k : Incomer) :
    (s.setPort p ps).calc k = s.calc k := rfl
@[simp] theorem State.setPort_account (s : State) (p : Port) (ps : PortState) (m : Nat) :
    (s.setPort p ps).account m = s.account m := rfl

/-! ### What `updPort` leaves and writes -/

@[simp] theorem State.updPort_pending (s : State) (p : Port) (f : PortState → PortState) : (s.updPort p f).pending = s.pending := rfl
@[simp] theorem State.updPort_now (s : State) (p : Port) (f : PortState → PortState) : (s.updPort p f).now = s.now := rfl
@[simp] theorem State.updPort_freeDraws (s : State) (p : Port) (f : PortState → PortState) : (s.updPort p f).freeDraws = s.freeDraws := rfl
@[simp] theorem State.updPort_receivers (s : State) (p : Port) (f : PortState → PortState) : (s.updPort p f).receivers = s.receivers := rfl
@[simp] theorem State.updPort_assemblers (s : State) (p : Port) (f : PortState → PortState) : (s.updPort p f).assemblers = s.assemblers := rfl
@[simp] theorem State.updPort_waitList (s : State) (p : Port) (f : PortState → PortState) : (s.updPort p f).waitList = s.waitList := rfl
@[simp] theorem State.updPort_engine (s : State) (p : Port) (f : PortState → PortState) : (s.updPort p f).engine = s.engine := rfl
@[simp] theorem State.updPort_calculator (s : State) (p : Port) (f : PortState → PortState) : (s.updPort p f).calculator = s.calculator := rfl
@[simp] theorem State.updPort_posting (s : State) (p : Port) (f : PortState → PortState) : (s.updPort p f).posting = s.posting := rfl
@[simp] theorem State.updPort_time (s : State) (p : Port) (f : PortState → PortState) : (s.updPort p f).time = s.time := rfl
@[simp] theorem State.updPort_accounts (s : State) (p : Port) (f : PortState → PortState) : (s.updPort p f).accounts = s.accounts := rfl
@[simp] theorem State.updPort_joint (s : State) (p : Port) (f : PortState → PortState) : (s.updPort p f).joint = s.joint := rfl
@[simp] theorem State.updPort_freeze (s : State) (p : Port) (f : PortState → PortState) : (s.updPort p f).freeze = s.freeze := rfl
@[simp] theorem State.updPort_retention (s : State) (p : Port) (f : PortState → PortState) : (s.updPort p f).retention = s.retention := rfl
@[simp] theorem State.updPort_receiver (s : State) (p : Port) (f : PortState → PortState) (k : Incomer) :
    (s.updPort p f).receiver k = s.receiver k := rfl
@[simp] theorem State.updPort_assembler (s : State) (p : Port) (f : PortState → PortState) (k : Incomer) :
    (s.updPort p f).assembler k = s.assembler k := rfl
@[simp] theorem State.updPort_calc (s : State) (p : Port) (f : PortState → PortState) (k : Incomer) :
    (s.updPort p f).calc k = s.calc k := rfl
@[simp] theorem State.updPort_account (s : State) (p : Port) (f : PortState → PortState) (m : Nat) :
    (s.updPort p f).account m = s.account m := rfl

/-! ### What `raise` leaves and writes -/

@[simp] theorem State.raise_pending (s : State) (p : Port) (e : Event) : (s.raise p e).pending = s.pending := rfl
@[simp] theorem State.raise_now (s : State) (p : Port) (e : Event) : (s.raise p e).now = s.now := rfl
@[simp] theorem State.raise_freeDraws (s : State) (p : Port) (e : Event) : (s.raise p e).freeDraws = s.freeDraws := rfl
@[simp] theorem State.raise_receivers (s : State) (p : Port) (e : Event) : (s.raise p e).receivers = s.receivers := rfl
@[simp] theorem State.raise_assemblers (s : State) (p : Port) (e : Event) : (s.raise p e).assemblers = s.assemblers := rfl
@[simp] theorem State.raise_waitList (s : State) (p : Port) (e : Event) : (s.raise p e).waitList = s.waitList := rfl
@[simp] theorem State.raise_engine (s : State) (p : Port) (e : Event) : (s.raise p e).engine = s.engine := rfl
@[simp] theorem State.raise_calculator (s : State) (p : Port) (e : Event) : (s.raise p e).calculator = s.calculator := rfl
@[simp] theorem State.raise_posting (s : State) (p : Port) (e : Event) : (s.raise p e).posting = s.posting := rfl
@[simp] theorem State.raise_time (s : State) (p : Port) (e : Event) : (s.raise p e).time = s.time := rfl
@[simp] theorem State.raise_accounts (s : State) (p : Port) (e : Event) : (s.raise p e).accounts = s.accounts := rfl
@[simp] theorem State.raise_joint (s : State) (p : Port) (e : Event) : (s.raise p e).joint = s.joint := rfl
@[simp] theorem State.raise_freeze (s : State) (p : Port) (e : Event) : (s.raise p e).freeze = s.freeze := rfl
@[simp] theorem State.raise_retention (s : State) (p : Port) (e : Event) : (s.raise p e).retention = s.retention := rfl
@[simp] theorem State.raise_receiver (s : State) (p : Port) (e : Event) (k : Incomer) :
    (s.raise p e).receiver k = s.receiver k := rfl
@[simp] theorem State.raise_assembler (s : State) (p : Port) (e : Event) (k : Incomer) :
    (s.raise p e).assembler k = s.assembler k := rfl
@[simp] theorem State.raise_calc (s : State) (p : Port) (e : Event) (k : Incomer) :
    (s.raise p e).calc k = s.calc k := rfl
@[simp] theorem State.raise_account (s : State) (p : Port) (e : Event) (m : Nat) :
    (s.raise p e).account m = s.account m := rfl

/-! ### What `raiseAll` leaves and writes -/

@[simp] theorem State.raiseAll_pending (s : State) (e : Event) : (s.raiseAll e).pending = s.pending := rfl
@[simp] theorem State.raiseAll_now (s : State) (e : Event) : (s.raiseAll e).now = s.now := rfl
@[simp] theorem State.raiseAll_freeDraws (s : State) (e : Event) : (s.raiseAll e).freeDraws = s.freeDraws := rfl
@[simp] theorem State.raiseAll_receivers (s : State) (e : Event) : (s.raiseAll e).receivers = s.receivers := rfl
@[simp] theorem State.raiseAll_assemblers (s : State) (e : Event) : (s.raiseAll e).assemblers = s.assemblers := rfl
@[simp] theorem State.raiseAll_waitList (s : State) (e : Event) : (s.raiseAll e).waitList = s.waitList := rfl
@[simp] theorem State.raiseAll_engine (s : State) (e : Event) : (s.raiseAll e).engine = s.engine := rfl
@[simp] theorem State.raiseAll_calculator (s : State) (e : Event) : (s.raiseAll e).calculator = s.calculator := rfl
@[simp] theorem State.raiseAll_posting (s : State) (e : Event) : (s.raiseAll e).posting = s.posting := rfl
@[simp] theorem State.raiseAll_time (s : State) (e : Event) : (s.raiseAll e).time = s.time := rfl
@[simp] theorem State.raiseAll_accounts (s : State) (e : Event) : (s.raiseAll e).accounts = s.accounts := rfl
@[simp] theorem State.raiseAll_joint (s : State) (e : Event) : (s.raiseAll e).joint = s.joint := rfl
@[simp] theorem State.raiseAll_freeze (s : State) (e : Event) : (s.raiseAll e).freeze = s.freeze := rfl
@[simp] theorem State.raiseAll_retention (s : State) (e : Event) : (s.raiseAll e).retention = s.retention := rfl
@[simp] theorem State.raiseAll_receiver (s : State) (e : Event) (k : Incomer) :
    (s.raiseAll e).receiver k = s.receiver k := rfl
@[simp] theorem State.raiseAll_assembler (s : State) (e : Event) (k : Incomer) :
    (s.raiseAll e).assembler k = s.assembler k := rfl
@[simp] theorem State.raiseAll_calc (s : State) (e : Event) (k : Incomer) :
    (s.raiseAll e).calc k = s.calc k := rfl
@[simp] theorem State.raiseAll_account (s : State) (e : Event) (m : Nat) :
    (s.raiseAll e).account m = s.account m := rfl

/-! ### What `writeFault` leaves and writes -/

@[simp] theorem State.writeFault_pending (s : State) (p : Port) (f : FaultInfo) : (s.writeFault p f).pending = s.pending := rfl
@[simp] theorem State.writeFault_now (s : State) (p : Port) (f : FaultInfo) : (s.writeFault p f).now = s.now := rfl
@[simp] theorem State.writeFault_freeDraws (s : State) (p : Port) (f : FaultInfo) : (s.writeFault p f).freeDraws = s.freeDraws := rfl
@[simp] theorem State.writeFault_receivers (s : State) (p : Port) (f : FaultInfo) : (s.writeFault p f).receivers = s.receivers := rfl
@[simp] theorem State.writeFault_assemblers (s : State) (p : Port) (f : FaultInfo) : (s.writeFault p f).assemblers = s.assemblers := rfl
@[simp] theorem State.writeFault_waitList (s : State) (p : Port) (f : FaultInfo) : (s.writeFault p f).waitList = s.waitList := rfl
@[simp] theorem State.writeFault_engine (s : State) (p : Port) (f : FaultInfo) : (s.writeFault p f).engine = s.engine := rfl
@[simp] theorem State.writeFault_calculator (s : State) (p : Port) (f : FaultInfo) : (s.writeFault p f).calculator = s.calculator := rfl
@[simp] theorem State.writeFault_posting (s : State) (p : Port) (f : FaultInfo) : (s.writeFault p f).posting = s.posting := rfl
@[simp] theorem State.writeFault_time (s : State) (p : Port) (f : FaultInfo) : (s.writeFault p f).time = s.time := rfl
@[simp] theorem State.writeFault_accounts (s : State) (p : Port) (f : FaultInfo) : (s.writeFault p f).accounts = s.accounts := rfl
@[simp] theorem State.writeFault_joint (s : State) (p : Port) (f : FaultInfo) : (s.writeFault p f).joint = s.joint := rfl
@[simp] theorem State.writeFault_freeze (s : State) (p : Port) (f : FaultInfo) : (s.writeFault p f).freeze = s.freeze := rfl
@[simp] theorem State.writeFault_retention (s : State) (p : Port) (f : FaultInfo) : (s.writeFault p f).retention = s.retention := rfl
@[simp] theorem State.writeFault_receiver (s : State) (p : Port) (f : FaultInfo) (k : Incomer) :
    (s.writeFault p f).receiver k = s.receiver k := rfl
@[simp] theorem State.writeFault_assembler (s : State) (p : Port) (f : FaultInfo) (k : Incomer) :
    (s.writeFault p f).assembler k = s.assembler k := rfl
@[simp] theorem State.writeFault_calc (s : State) (p : Port) (f : FaultInfo) (k : Incomer) :
    (s.writeFault p f).calc k = s.calc k := rfl
@[simp] theorem State.writeFault_account (s : State) (p : Port) (f : FaultInfo) (m : Nat) :
    (s.writeFault p f).account m = s.account m := rfl

/-! ### What `respond` leaves and writes -/

@[simp] theorem State.respond_pending (s : State) (p : Port) (c : Byte) (r : Response) : (s.respond p c r).pending = s.pending := rfl
@[simp] theorem State.respond_now (s : State) (p : Port) (c : Byte) (r : Response) : (s.respond p c r).now = s.now := rfl
@[simp] theorem State.respond_freeDraws (s : State) (p : Port) (c : Byte) (r : Response) : (s.respond p c r).freeDraws = s.freeDraws := rfl
@[simp] theorem State.respond_receivers (s : State) (p : Port) (c : Byte) (r : Response) : (s.respond p c r).receivers = s.receivers := rfl
@[simp] theorem State.respond_assemblers (s : State) (p : Port) (c : Byte) (r : Response) : (s.respond p c r).assemblers = s.assemblers := rfl
@[simp] theorem State.respond_waitList (s : State) (p : Port) (c : Byte) (r : Response) : (s.respond p c r).waitList = s.waitList := rfl
@[simp] theorem State.respond_engine (s : State) (p : Port) (c : Byte) (r : Response) : (s.respond p c r).engine = s.engine := rfl
@[simp] theorem State.respond_calculator (s : State) (p : Port) (c : Byte) (r : Response) : (s.respond p c r).calculator = s.calculator := rfl
@[simp] theorem State.respond_posting (s : State) (p : Port) (c : Byte) (r : Response) : (s.respond p c r).posting = s.posting := rfl
@[simp] theorem State.respond_time (s : State) (p : Port) (c : Byte) (r : Response) : (s.respond p c r).time = s.time := rfl
@[simp] theorem State.respond_accounts (s : State) (p : Port) (c : Byte) (r : Response) : (s.respond p c r).accounts = s.accounts := rfl
@[simp] theorem State.respond_joint (s : State) (p : Port) (c : Byte) (r : Response) : (s.respond p c r).joint = s.joint := rfl
@[simp] theorem State.respond_freeze (s : State) (p : Port) (c : Byte) (r : Response) : (s.respond p c r).freeze = s.freeze := rfl
@[simp] theorem State.respond_retention (s : State) (p : Port) (c : Byte) (r : Response) : (s.respond p c r).retention = s.retention := rfl
@[simp] theorem State.respond_receiver (s : State) (p : Port) (c : Byte) (r : Response) (k : Incomer) :
    (s.respond p c r).receiver k = s.receiver k := rfl
@[simp] theorem State.respond_assembler (s : State) (p : Port) (c : Byte) (r : Response) (k : Incomer) :
    (s.respond p c r).assembler k = s.assembler k := rfl
@[simp] theorem State.respond_calc (s : State) (p : Port) (c : Byte) (r : Response) (k : Incomer) :
    (s.respond p c r).calc k = s.calc k := rfl
@[simp] theorem State.respond_account (s : State) (p : Port) (c : Byte) (r : Response) (m : Nat) :
    (s.respond p c r).account m = s.account m := rfl

/-! ### What `setReceiver` leaves and writes -/

@[simp] theorem State.setReceiver_pending (s : State) (i : Incomer) (r : Receiver) : (s.setReceiver i r).pending = s.pending := rfl
@[simp] theorem State.setReceiver_now (s : State) (i : Incomer) (r : Receiver) : (s.setReceiver i r).now = s.now := rfl
@[simp] theorem State.setReceiver_freeDraws (s : State) (i : Incomer) (r : Receiver) : (s.setReceiver i r).freeDraws = s.freeDraws := rfl
@[simp] theorem State.setReceiver_assemblers (s : State) (i : Incomer) (r : Receiver) : (s.setReceiver i r).assemblers = s.assemblers := rfl
@[simp] theorem State.setReceiver_waitList (s : State) (i : Incomer) (r : Receiver) : (s.setReceiver i r).waitList = s.waitList := rfl
@[simp] theorem State.setReceiver_engine (s : State) (i : Incomer) (r : Receiver) : (s.setReceiver i r).engine = s.engine := rfl
@[simp] theorem State.setReceiver_calculator (s : State) (i : Incomer) (r : Receiver) : (s.setReceiver i r).calculator = s.calculator := rfl
@[simp] theorem State.setReceiver_posting (s : State) (i : Incomer) (r : Receiver) : (s.setReceiver i r).posting = s.posting := rfl
@[simp] theorem State.setReceiver_time (s : State) (i : Incomer) (r : Receiver) : (s.setReceiver i r).time = s.time := rfl
@[simp] theorem State.setReceiver_accounts (s : State) (i : Incomer) (r : Receiver) : (s.setReceiver i r).accounts = s.accounts := rfl
@[simp] theorem State.setReceiver_joint (s : State) (i : Incomer) (r : Receiver) : (s.setReceiver i r).joint = s.joint := rfl
@[simp] theorem State.setReceiver_freeze (s : State) (i : Incomer) (r : Receiver) : (s.setReceiver i r).freeze = s.freeze := rfl
@[simp] theorem State.setReceiver_ports (s : State) (i : Incomer) (r : Receiver) : (s.setReceiver i r).ports = s.ports := rfl
@[simp] theorem State.setReceiver_retention (s : State) (i : Incomer) (r : Receiver) : (s.setReceiver i r).retention = s.retention := rfl
@[simp] theorem State.setReceiver_port (s : State) (i : Incomer) (r : Receiver) (q : Port) :
    (s.setReceiver i r).port q = s.port q := rfl
@[simp] theorem State.setReceiver_assembler (s : State) (i : Incomer) (r : Receiver) (k : Incomer) :
    (s.setReceiver i r).assembler k = s.assembler k := rfl
@[simp] theorem State.setReceiver_calc (s : State) (i : Incomer) (r : Receiver) (k : Incomer) :
    (s.setReceiver i r).calc k = s.calc k := rfl
@[simp] theorem State.setReceiver_account (s : State) (i : Incomer) (r : Receiver) (m : Nat) :
    (s.setReceiver i r).account m = s.account m := rfl

/-! ### What `setAssembler` leaves and writes -/

@[simp] theorem State.setAssembler_pending (s : State) (i : Incomer) (a : Assembler) : (s.setAssembler i a).pending = s.pending := rfl
@[simp] theorem State.setAssembler_now (s : State) (i : Incomer) (a : Assembler) : (s.setAssembler i a).now = s.now := rfl
@[simp] theorem State.setAssembler_freeDraws (s : State) (i : Incomer) (a : Assembler) : (s.setAssembler i a).freeDraws = s.freeDraws := rfl
@[simp] theorem State.setAssembler_receivers (s : State) (i : Incomer) (a : Assembler) : (s.setAssembler i a).receivers = s.receivers := rfl
@[simp] theorem State.setAssembler_waitList (s : State) (i : Incomer) (a : Assembler) : (s.setAssembler i a).waitList = s.waitList := rfl
@[simp] theorem State.setAssembler_engine (s : State) (i : Incomer) (a : Assembler) : (s.setAssembler i a).engine = s.engine := rfl
@[simp] theorem State.setAssembler_calculator (s : State) (i : Incomer) (a : Assembler) : (s.setAssembler i a).calculator = s.calculator := rfl
@[simp] theorem State.setAssembler_posting (s : State) (i : Incomer) (a : Assembler) : (s.setAssembler i a).posting = s.posting := rfl
@[simp] theorem State.setAssembler_time (s : State) (i : Incomer) (a : Assembler) : (s.setAssembler i a).time = s.time := rfl
@[simp] theorem State.setAssembler_accounts (s : State) (i : Incomer) (a : Assembler) : (s.setAssembler i a).accounts = s.accounts := rfl
@[simp] theorem State.setAssembler_joint (s : State) (i : Incomer) (a : Assembler) : (s.setAssembler i a).joint = s.joint := rfl
@[simp] theorem State.setAssembler_freeze (s : State) (i : Incomer) (a : Assembler) : (s.setAssembler i a).freeze = s.freeze := rfl
@[simp] theorem State.setAssembler_ports (s : State) (i : Incomer) (a : Assembler) : (s.setAssembler i a).ports = s.ports := rfl
@[simp] theorem State.setAssembler_retention (s : State) (i : Incomer) (a : Assembler) : (s.setAssembler i a).retention = s.retention := rfl
@[simp] theorem State.setAssembler_port (s : State) (i : Incomer) (a : Assembler) (q : Port) :
    (s.setAssembler i a).port q = s.port q := rfl
@[simp] theorem State.setAssembler_receiver (s : State) (i : Incomer) (a : Assembler) (k : Incomer) :
    (s.setAssembler i a).receiver k = s.receiver k := rfl
@[simp] theorem State.setAssembler_calc (s : State) (i : Incomer) (a : Assembler) (k : Incomer) :
    (s.setAssembler i a).calc k = s.calc k := rfl
@[simp] theorem State.setAssembler_account (s : State) (i : Incomer) (a : Assembler) (m : Nat) :
    (s.setAssembler i a).account m = s.account m := rfl

/-! ### What `setCalc` leaves and writes -/

@[simp] theorem State.setCalc_pending (s : State) (i : Incomer) (c : Calc) : (s.setCalc i c).pending = s.pending := rfl
@[simp] theorem State.setCalc_now (s : State) (i : Incomer) (c : Calc) : (s.setCalc i c).now = s.now := rfl
@[simp] theorem State.setCalc_freeDraws (s : State) (i : Incomer) (c : Calc) : (s.setCalc i c).freeDraws = s.freeDraws := rfl
@[simp] theorem State.setCalc_receivers (s : State) (i : Incomer) (c : Calc) : (s.setCalc i c).receivers = s.receivers := rfl
@[simp] theorem State.setCalc_assemblers (s : State) (i : Incomer) (c : Calc) : (s.setCalc i c).assemblers = s.assemblers := rfl
@[simp] theorem State.setCalc_waitList (s : State) (i : Incomer) (c : Calc) : (s.setCalc i c).waitList = s.waitList := rfl
@[simp] theorem State.setCalc_engine (s : State) (i : Incomer) (c : Calc) : (s.setCalc i c).engine = s.engine := rfl
@[simp] theorem State.setCalc_posting (s : State) (i : Incomer) (c : Calc) : (s.setCalc i c).posting = s.posting := rfl
@[simp] theorem State.setCalc_time (s : State) (i : Incomer) (c : Calc) : (s.setCalc i c).time = s.time := rfl
@[simp] theorem State.setCalc_accounts (s : State) (i : Incomer) (c : Calc) : (s.setCalc i c).accounts = s.accounts := rfl
@[simp] theorem State.setCalc_joint (s : State) (i : Incomer) (c : Calc) : (s.setCalc i c).joint = s.joint := rfl
@[simp] theorem State.setCalc_freeze (s : State) (i : Incomer) (c : Calc) : (s.setCalc i c).freeze = s.freeze := rfl
@[simp] theorem State.setCalc_ports (s : State) (i : Incomer) (c : Calc) : (s.setCalc i c).ports = s.ports := rfl
@[simp] theorem State.setCalc_retention (s : State) (i : Incomer) (c : Calc) : (s.setCalc i c).retention = s.retention := rfl
@[simp] theorem State.setCalc_port (s : State) (i : Incomer) (c : Calc) (q : Port) :
    (s.setCalc i c).port q = s.port q := rfl
@[simp] theorem State.setCalc_receiver (s : State) (i : Incomer) (c : Calc) (k : Incomer) :
    (s.setCalc i c).receiver k = s.receiver k := rfl
@[simp] theorem State.setCalc_assembler (s : State) (i : Incomer) (c : Calc) (k : Incomer) :
    (s.setCalc i c).assembler k = s.assembler k := rfl
@[simp] theorem State.setCalc_account (s : State) (i : Incomer) (c : Calc) (m : Nat) :
    (s.setCalc i c).account m = s.account m := rfl

/-! ### What `setAccount` leaves and writes -/

@[simp] theorem State.setAccount_pending (s : State) (n : Nat) (a : Option Account) : (s.setAccount n a).pending = s.pending := rfl
@[simp] theorem State.setAccount_now (s : State) (n : Nat) (a : Option Account) : (s.setAccount n a).now = s.now := rfl
@[simp] theorem State.setAccount_freeDraws (s : State) (n : Nat) (a : Option Account) : (s.setAccount n a).freeDraws = s.freeDraws := rfl
@[simp] theorem State.setAccount_receivers (s : State) (n : Nat) (a : Option Account) : (s.setAccount n a).receivers = s.receivers := rfl
@[simp] theorem State.setAccount_assemblers (s : State) (n : Nat) (a : Option Account) : (s.setAccount n a).assemblers = s.assemblers := rfl
@[simp] theorem State.setAccount_waitList (s : State) (n : Nat) (a : Option Account) : (s.setAccount n a).waitList = s.waitList := rfl
@[simp] theorem State.setAccount_engine (s : State) (n : Nat) (a : Option Account) : (s.setAccount n a).engine = s.engine := rfl
@[simp] theorem State.setAccount_calculator (s : State) (n : Nat) (a : Option Account) : (s.setAccount n a).calculator = s.calculator := rfl
@[simp] theorem State.setAccount_posting (s : State) (n : Nat) (a : Option Account) : (s.setAccount n a).posting = s.posting := rfl
@[simp] theorem State.setAccount_time (s : State) (n : Nat) (a : Option Account) : (s.setAccount n a).time = s.time := rfl
@[simp] theorem State.setAccount_joint (s : State) (n : Nat) (a : Option Account) : (s.setAccount n a).joint = s.joint := rfl
@[simp] theorem State.setAccount_freeze (s : State) (n : Nat) (a : Option Account) : (s.setAccount n a).freeze = s.freeze := rfl
@[simp] theorem State.setAccount_ports (s : State) (n : Nat) (a : Option Account) : (s.setAccount n a).ports = s.ports := rfl
@[simp] theorem State.setAccount_retention (s : State) (n : Nat) (a : Option Account) : (s.setAccount n a).retention = s.retention := rfl
@[simp] theorem State.setAccount_port (s : State) (n : Nat) (a : Option Account) (q : Port) :
    (s.setAccount n a).port q = s.port q := rfl
@[simp] theorem State.setAccount_receiver (s : State) (n : Nat) (a : Option Account) (k : Incomer) :
    (s.setAccount n a).receiver k = s.receiver k := rfl
@[simp] theorem State.setAccount_assembler (s : State) (n : Nat) (a : Option Account) (k : Incomer) :
    (s.setAccount n a).assembler k = s.assembler k := rfl
@[simp] theorem State.setAccount_calc (s : State) (n : Nat) (a : Option Account) (k : Incomer) :
    (s.setAccount n a).calc k = s.calc k := rfl

/-! ### What `mapAccounts` leaves and writes -/

@[simp] theorem State.mapAccounts_pending (s : State) (f : Account → Account) : (s.mapAccounts f).pending = s.pending := rfl
@[simp] theorem State.mapAccounts_now (s : State) (f : Account → Account) : (s.mapAccounts f).now = s.now := rfl
@[simp] theorem State.mapAccounts_freeDraws (s : State) (f : Account → Account) : (s.mapAccounts f).freeDraws = s.freeDraws := rfl
@[simp] theorem State.mapAccounts_receivers (s : State) (f : Account → Account) : (s.mapAccounts f).receivers = s.receivers := rfl
@[simp] theorem State.mapAccounts_assemblers (s : State) (f : Account → Account) : (s.mapAccounts f).assemblers = s.assemblers := rfl
@[simp] theorem State.mapAccounts_waitList (s : State) (f : Account → Account) : (s.mapAccounts f).waitList = s.waitList := rfl
@[simp] theorem State.mapAccounts_engine (s : State) (f : Account → Account) : (s.mapAccounts f).engine = s.engine := rfl
@[simp] theorem State.mapAccounts_calculator (s : State) (f : Account → Account) : (s.mapAccounts f).calculator = s.calculator := rfl
@[simp] theorem State.mapAccounts_posting (s : State) (f : Account → Account) : (s.mapAccounts f).posting = s.posting := rfl
@[simp] theorem State.mapAccounts_time (s : State) (f : Account → Account) : (s.mapAccounts f).time = s.time := rfl
@[simp] theorem State.mapAccounts_joint (s : State) (f : Account → Account) : (s.mapAccounts f).joint = s.joint := rfl
@[simp] theorem State.mapAccounts_freeze (s : State) (f : Account → Account) : (s.mapAccounts f).freeze = s.freeze := rfl
@[simp] theorem State.mapAccounts_ports (s : State) (f : Account → Account) : (s.mapAccounts f).ports = s.ports := rfl
@[simp] theorem State.mapAccounts_retention (s : State) (f : Account → Account) : (s.mapAccounts f).retention = s.retention := rfl
@[simp] theorem State.mapAccounts_port (s : State) (f : Account → Account) (q : Port) :
    (s.mapAccounts f).port q = s.port q := rfl
@[simp] theorem State.mapAccounts_receiver (s : State) (f : Account → Account) (k : Incomer) :
    (s.mapAccounts f).receiver k = s.receiver k := rfl
@[simp] theorem State.mapAccounts_assembler (s : State) (f : Account → Account) (k : Incomer) :
    (s.mapAccounts f).assembler k = s.assembler k := rfl
@[simp] theorem State.mapAccounts_calc (s : State) (f : Account → Account) (k : Incomer) :
    (s.mapAccounts f).calc k = s.calc k := rfl

/-! ### What `setFreeze` leaves and writes -/

@[simp] theorem State.setFreeze_pending (s : State) (u : FreezeUnit) : (s.setFreeze u).pending = s.pending := rfl
@[simp] theorem State.setFreeze_now (s : State) (u : FreezeUnit) : (s.setFreeze u).now = s.now := rfl
@[simp] theorem State.setFreeze_freeDraws (s : State) (u : FreezeUnit) : (s.setFreeze u).freeDraws = s.freeDraws := rfl
@[simp] theorem State.setFreeze_receivers (s : State) (u : FreezeUnit) : (s.setFreeze u).receivers = s.receivers := rfl
@[simp] theorem State.setFreeze_assemblers (s : State) (u : FreezeUnit) : (s.setFreeze u).assemblers = s.assemblers := rfl
@[simp] theorem State.setFreeze_waitList (s : State) (u : FreezeUnit) : (s.setFreeze u).waitList = s.waitList := rfl
@[simp] theorem State.setFreeze_engine (s : State) (u : FreezeUnit) : (s.setFreeze u).engine = s.engine := rfl
@[simp] theorem State.setFreeze_calculator (s : State) (u : FreezeUnit) : (s.setFreeze u).calculator = s.calculator := rfl
@[simp] theorem State.setFreeze_posting (s : State) (u : FreezeUnit) : (s.setFreeze u).posting = s.posting := rfl
@[simp] theorem State.setFreeze_time (s : State) (u : FreezeUnit) : (s.setFreeze u).time = s.time := rfl
@[simp] theorem State.setFreeze_accounts (s : State) (u : FreezeUnit) : (s.setFreeze u).accounts = s.accounts := rfl
@[simp] theorem State.setFreeze_joint (s : State) (u : FreezeUnit) : (s.setFreeze u).joint = s.joint := rfl
@[simp] theorem State.setFreeze_ports (s : State) (u : FreezeUnit) : (s.setFreeze u).ports = s.ports := rfl
@[simp] theorem State.setFreeze_retention (s : State) (u : FreezeUnit) : (s.setFreeze u).retention = s.retention := rfl
@[simp] theorem State.setFreeze_port (s : State) (u : FreezeUnit) (q : Port) :
    (s.setFreeze u).port q = s.port q := rfl
@[simp] theorem State.setFreeze_receiver (s : State) (u : FreezeUnit) (k : Incomer) :
    (s.setFreeze u).receiver k = s.receiver k := rfl
@[simp] theorem State.setFreeze_assembler (s : State) (u : FreezeUnit) (k : Incomer) :
    (s.setFreeze u).assembler k = s.assembler k := rfl
@[simp] theorem State.setFreeze_calc (s : State) (u : FreezeUnit) (k : Incomer) :
    (s.setFreeze u).calc k = s.calc k := rfl
@[simp] theorem State.setFreeze_account (s : State) (u : FreezeUnit) (m : Nat) :
    (s.setFreeze u).account m = s.account m := rfl

/-! ### What `setJoint` leaves and writes -/

@[simp] theorem State.setJoint_pending (s : State) (j : Joint) : (s.setJoint j).pending = s.pending := rfl
@[simp] theorem State.setJoint_now (s : State) (j : Joint) : (s.setJoint j).now = s.now := rfl
@[simp] theorem State.setJoint_freeDraws (s : State) (j : Joint) : (s.setJoint j).freeDraws = s.freeDraws := rfl
@[simp] theorem State.setJoint_receivers (s : State) (j : Joint) : (s.setJoint j).receivers = s.receivers := rfl
@[simp] theorem State.setJoint_assemblers (s : State) (j : Joint) : (s.setJoint j).assemblers = s.assemblers := rfl
@[simp] theorem State.setJoint_waitList (s : State) (j : Joint) : (s.setJoint j).waitList = s.waitList := rfl
@[simp] theorem State.setJoint_engine (s : State) (j : Joint) : (s.setJoint j).engine = s.engine := rfl
@[simp] theorem State.setJoint_calculator (s : State) (j : Joint) : (s.setJoint j).calculator = s.calculator := rfl
@[simp] theorem State.setJoint_posting (s : State) (j : Joint) : (s.setJoint j).posting = s.posting := rfl
@[simp] theorem State.setJoint_time (s : State) (j : Joint) : (s.setJoint j).time = s.time := rfl
@[simp] theorem State.setJoint_accounts (s : State) (j : Joint) : (s.setJoint j).accounts = s.accounts := rfl
@[simp] theorem State.setJoint_freeze (s : State) (j : Joint) : (s.setJoint j).freeze = s.freeze := rfl
@[simp] theorem State.setJoint_ports (s : State) (j : Joint) : (s.setJoint j).ports = s.ports := rfl
@[simp] theorem State.setJoint_retention (s : State) (j : Joint) : (s.setJoint j).retention = s.retention := rfl
@[simp] theorem State.setJoint_port (s : State) (j : Joint) (q : Port) :
    (s.setJoint j).port q = s.port q := rfl
@[simp] theorem State.setJoint_receiver (s : State) (j : Joint) (k : Incomer) :
    (s.setJoint j).receiver k = s.receiver k := rfl
@[simp] theorem State.setJoint_assembler (s : State) (j : Joint) (k : Incomer) :
    (s.setJoint j).assembler k = s.assembler k := rfl
@[simp] theorem State.setJoint_calc (s : State) (j : Joint) (k : Incomer) :
    (s.setJoint j).calc k = s.calc k := rfl
@[simp] theorem State.setJoint_account (s : State) (j : Joint) (m : Nat) :
    (s.setJoint j).account m = s.account m := rfl

/-! ### What `setTime` leaves and writes -/

@[simp] theorem State.setTime_pending (s : State) (t : TimeBase) : (s.setTime t).pending = s.pending := rfl
@[simp] theorem State.setTime_now (s : State) (t : TimeBase) : (s.setTime t).now = s.now := rfl
@[simp] theorem State.setTime_freeDraws (s : State) (t : TimeBase) : (s.setTime t).freeDraws = s.freeDraws := rfl
@[simp] theorem State.setTime_receivers (s : State) (t : TimeBase) : (s.setTime t).receivers = s.receivers := rfl
@[simp] theorem State.setTime_assemblers (s : State) (t : TimeBase) : (s.setTime t).assemblers = s.assemblers := rfl
@[simp] theorem State.setTime_waitList (s : State) (t : TimeBase) : (s.setTime t).waitList = s.waitList := rfl
@[simp] theorem State.setTime_engine (s : State) (t : TimeBase) : (s.setTime t).engine = s.engine := rfl
@[simp] theorem State.setTime_calculator (s : State) (t : TimeBase) : (s.setTime t).calculator = s.calculator := rfl
@[simp] theorem State.setTime_posting (s : State) (t : TimeBase) : (s.setTime t).posting = s.posting := rfl
@[simp] theorem State.setTime_accounts (s : State) (t : TimeBase) : (s.setTime t).accounts = s.accounts := rfl
@[simp] theorem State.setTime_joint (s : State) (t : TimeBase) : (s.setTime t).joint = s.joint := rfl
@[simp] theorem State.setTime_freeze (s : State) (t : TimeBase) : (s.setTime t).freeze = s.freeze := rfl
@[simp] theorem State.setTime_ports (s : State) (t : TimeBase) : (s.setTime t).ports = s.ports := rfl
@[simp] theorem State.setTime_retention (s : State) (t : TimeBase) : (s.setTime t).retention = s.retention := rfl
@[simp] theorem State.setTime_port (s : State) (t : TimeBase) (q : Port) :
    (s.setTime t).port q = s.port q := rfl
@[simp] theorem State.setTime_receiver (s : State) (t : TimeBase) (k : Incomer) :
    (s.setTime t).receiver k = s.receiver k := rfl
@[simp] theorem State.setTime_assembler (s : State) (t : TimeBase) (k : Incomer) :
    (s.setTime t).assembler k = s.assembler k := rfl
@[simp] theorem State.setTime_calc (s : State) (t : TimeBase) (k : Incomer) :
    (s.setTime t).calc k = s.calc k := rfl
@[simp] theorem State.setTime_account (s : State) (t : TimeBase) (m : Nat) :
    (s.setTime t).account m = s.account m := rfl

/-! ### What `drawn` leaves and writes -/

@[simp] theorem State.drawn_pending (s : State) : s.drawn.pending = s.pending := rfl
@[simp] theorem State.drawn_now (s : State) : s.drawn.now = s.now := rfl
@[simp] theorem State.drawn_receivers (s : State) : s.drawn.receivers = s.receivers := rfl
@[simp] theorem State.drawn_assemblers (s : State) : s.drawn.assemblers = s.assemblers := rfl
@[simp] theorem State.drawn_waitList (s : State) : s.drawn.waitList = s.waitList := rfl
@[simp] theorem State.drawn_engine (s : State) : s.drawn.engine = s.engine := rfl
@[simp] theorem State.drawn_calculator (s : State) : s.drawn.calculator = s.calculator := rfl
@[simp] theorem State.drawn_posting (s : State) : s.drawn.posting = s.posting := rfl
@[simp] theorem State.drawn_time (s : State) : s.drawn.time = s.time := rfl
@[simp] theorem State.drawn_accounts (s : State) : s.drawn.accounts = s.accounts := rfl
@[simp] theorem State.drawn_joint (s : State) : s.drawn.joint = s.joint := rfl
@[simp] theorem State.drawn_freeze (s : State) : s.drawn.freeze = s.freeze := rfl
@[simp] theorem State.drawn_ports (s : State) : s.drawn.ports = s.ports := rfl
@[simp] theorem State.drawn_retention (s : State) : s.drawn.retention = s.retention := rfl
@[simp] theorem State.drawn_port (s : State) (q : Port) :
    s.drawn.port q = s.port q := rfl
@[simp] theorem State.drawn_receiver (s : State) (k : Incomer) :
    s.drawn.receiver k = s.receiver k := rfl
@[simp] theorem State.drawn_assembler (s : State) (k : Incomer) :
    s.drawn.assembler k = s.assembler k := rfl
@[simp] theorem State.drawn_calc (s : State) (k : Incomer) :
    s.drawn.calc k = s.calc k := rfl
@[simp] theorem State.drawn_account (s : State) (m : Nat) :
    s.drawn.account m = s.account m := rfl

/-! ### What each update writes -/

@[simp] theorem State.setPort_ports (s : State) (p : Port) (ps : PortState) :
    (s.setPort p ps).ports = s.ports.set p ps := rfl
@[simp] theorem State.updPort_ports (s : State) (p : Port) (f : PortState → PortState) :
    (s.updPort p f).ports = s.ports.set p (f (s.port p)) := rfl
@[simp] theorem State.raise_ports (s : State) (p : Port) (e : Event) :
    (s.raise p e).ports = s.ports.set p ((s.port p).raise e) := rfl
@[simp] theorem State.writeFault_ports (s : State) (p : Port) (f : FaultInfo) :
    (s.writeFault p f).ports = s.ports.set p ((s.port p).writeFault f) := rfl
@[simp] theorem State.setReceiver_receivers (s : State) (i : Incomer) (r : Receiver) :
    (s.setReceiver i r).receivers = s.receivers.set i r := rfl
@[simp] theorem State.setAssembler_assemblers (s : State) (i : Incomer) (a : Assembler) :
    (s.setAssembler i a).assemblers = s.assemblers.set i a := rfl
@[simp] theorem State.setCalc_calculator (s : State) (i : Incomer) (c : Calc) :
    (s.setCalc i c).calculator = s.calculator.set i c := rfl
@[simp] theorem State.setAccount_accounts (s : State) (n : Nat) (a : Option Account) :
    (s.setAccount n a).accounts = s.accounts.setIfInBounds n a := rfl
@[simp] theorem State.mapAccounts_accounts (s : State) (f : Account → Account) :
    (s.mapAccounts f).accounts = mapVec (Option.map f) s.accounts := rfl
@[simp] theorem State.setFreeze_freeze (s : State) (u : FreezeUnit) :
    (s.setFreeze u).freeze = u := rfl
@[simp] theorem State.setJoint_joint (s : State) (j : Joint) :
    (s.setJoint j).joint = j := rfl
@[simp] theorem State.setTime_time (s : State) (t : TimeBase) :
    (s.setTime t).time = t := rfl
@[simp] theorem State.drawn_freeDraws (s : State) :
    s.drawn.freeDraws = s.freeDraws + 1 := rfl

end Sys2Proof.Machine
end

