-- ==== Sys2Proof/Laws/Ops.lean ====
section
/-! SUPPORT. What each shared operation can do: its cases, and the parts of the state that it leaves. -/

namespace Sys2Proof.Machine

/-! ### Taking a request (R177) -/

theorem State.take_of_inFlight {s : State} {p : Port} {code : Nat} {r : Request} (act : Request → Response × State)
    (h : (s.port p).inFlight = some r) (hc : r.code.toNat = code) :
    s.take p code act = (act r).2.respond p r.code (act r).1 := by
  simp [State.take, h, hc]

/-- A take either finds no request of its code and changes nothing, or acts and answers. -/
theorem State.take_cases (s : State) (p : Port) (code : Nat) (act : Request → Response × State) :
    s.take p code act = s
      ∨ ∃ r, (s.port p).inFlight = some r ∧ r.code.toNat = code
          ∧ s.take p code act = (act r).2.respond p r.code (act r).1 := by
  cases h : (s.port p).inFlight with
  | none => exact .inl (by simp [State.take, h])
  | some r =>
    by_cases hc : r.code.toNat = code
    · exact .inr ⟨r, rfl, hc, s.take_of_inFlight act h hc⟩
    · exact .inl (by simp [State.take, h, hc])

/-- An account request is refused at the directory level, leaving everything but the sender's fault record, or `act`
takes it on the account's record (R148). -/
theorem State.onAccount_cases (s : State) (p : Port) (n : Nat) (need : Need) (act : Account → Response × State) :
    (∃ f, s.onAccount p n need act = (.rights, s.writeFault p f))
      ∨ ∃ a, s.account n = some a ∧ a.permits n p need = true ∧ s.onAccount p n need act = act a := by
  cases h : s.account n with
  | none => exact .inl ⟨_, by simp [State.onAccount, h]; rfl⟩
  | some a =>
    by_cases hp : a.permits n p need = true
    · exact .inr ⟨a, rfl, hp, by simp [State.onAccount, h, hp]⟩
    · exact .inl ⟨_, by simp [State.onAccount, h, hp]; rfl⟩

theorem State.onAccount_of_permits {s : State} {p : Port} {n : Nat} {need : Need} {a : Account}
    (act : Account → Response × State) (h : s.account n = some a) (hp : a.permits n p need = true) :
    s.onAccount p n need act = act a := by
  simp [State.onAccount, h, hp]

theorem Account.permits_owner (a : Account) (n : Nat) (need : Need) : a.permits n (ownerOf n) need = true := by
  simp [Account.permits]

/-! ### Operations on ports alone -/

/-- `t` differs from `s` in its ports at most. -/
def PortsOnly (s t : State) : Prop := t = { s with ports := t.ports }

theorem PortsOnly.refl (s : State) : PortsOnly s s := rfl

theorem PortsOnly.trans {s t u : State} (h : PortsOnly s t) (k : PortsOnly t u) : PortsOnly s u := by
  unfold PortsOnly at *
  rw [k, h]

theorem State.setPort_portsOnly (s : State) (p : Port) (ps : PortState) : PortsOnly s (s.setPort p ps) := rfl

theorem State.updPort_portsOnly (s : State) (p : Port) (f : PortState → PortState) : PortsOnly s (s.updPort p f) := rfl

theorem State.raiseIf_portsOnly (s : State) (b : Bool) (p : Port) (e : Event) : PortsOnly s (s.raiseIf b p e) := by
  cases b <;> rfl

theorem State.raiseAll_portsOnly (s : State) (e : Event) : PortsOnly s (s.raiseAll e) := rfl

theorem State.raiseRecords_portsOnly (s : State) (n : Nat) (a : Account) : PortsOnly s (s.raiseRecords n a) :=
  ((s.raiseIf_portsOnly _ _ _).trans (State.raiseIf_portsOnly _ _ _ _)).trans (State.raiseIf_portsOnly _ _ _ _)

theorem State.routeTo_portsOnly (s : State) (n : Nat) (x : Crossed) (p : Port) : PortsOnly s (s.routeTo n x p) := by
  unfold State.routeTo
  split <;> rfl

theorem State.route_portsOnly (s : State) (n : Nat) (xs : List Crossed) : PortsOnly s (s.route n xs) := by
  induction xs generalizing s with
  | nil => rfl
  | cons x xs ih =>
    exact ((((s.routeTo_portsOnly n x _).trans (State.routeTo_portsOnly _ _ _ _)).trans
      (State.routeTo_portsOnly _ _ _ _)).trans (ih _))

theorem State.dropPending_portsOnly (s : State) (p : Port) (f : PendingEntry → Bool) :
    PortsOnly s (s.dropPending p f) := rfl

theorem State.dropPendingAll_portsOnly (s : State) (f : PendingEntry → Bool) : PortsOnly s (s.dropPendingAll f) := rfl

theorem State.dropUnqualified_portsOnly (s : State) (n : Nat) (a : Account) : PortsOnly s (s.dropUnqualified n a) := rfl

theorem State.enter_portsOnly (s : State) (p : Port) (t : Transaction) : PortsOnly s (s.enter p t) := rfl

theorem State.shift_portsOnly (s : State) (p : Port) (t : Transaction) (w : Word) : PortsOnly s (s.shift p t w) := rfl

theorem State.shiftZero_portsOnly (s : State) (p : Port) (t : Transaction) : PortsOnly s (s.shiftZero p t) := rfl

theorem State.shiftPast_portsOnly (s : State) (p : Port) (t : Transaction) : PortsOnly s (s.shiftPast p t) := rfl

theorem State.shiftOut_portsOnly (s : State) (p : Port) (t : Transaction) (w : OutWord) :
    PortsOnly s (s.shiftOut p t w) := rfl

theorem State.readItem_portsOnly (s : State) (p : Port) (t : Transaction) : PortsOnly s (s.readItem p t) := by
  unfold State.readItem
  split
  · rfl
  · split <;> rfl

theorem State.pop_portsOnly (s : State) (p : Port) (t : Transaction) : PortsOnly s (s.pop p t) := by
  unfold State.pop
  split <;> rfl

theorem State.txFault_portsOnly (s : State) (p : Port) (t : Transaction) (f : FaultInfo) :
    PortsOnly s (s.txFault p t f) := by
  unfold State.txFault
  split <;> rfl

theorem State.failEntry_portsOnly (s : State) (p : Port) (t : Transaction) (f : FaultInfo) :
    PortsOnly s (s.failEntry p t f) := (s.txFault_portsOnly p t f).trans rfl

theorem State.failOffset_portsOnly (s : State) (p : Port) (t : Transaction) (w : Word) :
    PortsOnly s (s.failOffset p t w) := (s.txFault_portsOnly p t _).trans rfl

theorem State.failHead_portsOnly (s : State) (p : Port) (r : Readout) (k : TxKind) (w : Word) (f : FaultInfo) :
    PortsOnly s (s.failHead p r k w f) := rfl

theorem State.entryHead_portsOnly (s : State) (p : Port) (k : TxKind) (r : Readout) (w : Word) :
    PortsOnly s (s.entryHead p k r w) := by
  unfold State.entryHead
  split <;> rfl

theorem State.binFirst_portsOnly (s : State) (p : Port) (t : Transaction) : PortsOnly s (s.binFirst p t) := by
  unfold State.binFirst
  dsimp only
  split
  · exact s.failEntry_portsOnly p t _
  · split
    · exact s.failEntry_portsOnly p t _
    · split
      · rfl
      · split
        · exact (s.txFault_portsOnly p t _).trans (State.pop_portsOnly _ p _)
        · exact s.pop_portsOnly p _

/-- A further word of a BINS read changes the port alone (R144 to R146). -/
theorem State.binsWord_portsOnly (s : State) (p : Port) (t : Transaction) (w : Word) : PortsOnly s (s.binsWord p t w) := by
  unfold State.binsWord
  split
  · rfl
  · split
    · unfold State.binsOffset
      split
      · exact s.failOffset_portsOnly p t w
      · rfl
    · split
      · split
        · rfl
        · exact s.binFirst_portsOnly p t
      · exact s.pop_portsOnly p _

/-- An index has reached the bin count of an account that the slot holds, and of none else (R144). -/
theorem State.pastBins_iff (s : State) (n index : Nat) :
    s.pastBins n index = true ↔ ∃ a, s.account n = some a ∧ a.bins.length ≤ index := by
  simp [State.pastBins, Option.getD_eq_iff]

/-- Past the last bin every word is 0000h with OVERRUN, whatever the account has become (R173). -/
theorem State.binsWord_past {s : State} {p : Port} {t : Transaction} (w : Word) (hz : t.zeros = false)
    (ho : t.offset ≠ none) (hl : t.latch = []) (hp : t.past = true) : s.binsWord p t w = s.shiftPast p t := by
  simp [State.binsWord, hz, ho, hl, hp]

/-- At the words of a bin after the first `past` alone can change, and only to clear (R173; log entry 31). -/
theorem State.binsOn_eq (s : State) (t : Transaction) :
    ∃ b, s.binsOn t = { t with past := b } ∧ (b = true → t.past = true) := by
  unfold State.binsOn
  split
  · split
    · exact ⟨_, rfl, fun h => ((Bool.and_eq_true ..).mp h).1⟩
    · exact ⟨t.past, rfl, id⟩
  · exact ⟨t.past, rfl, id⟩

/-- The word at the head of the latch is shifted out, and the rest stays latched (R145, R173). -/
theorem State.pop_of_latch {s : State} {p : Port} {t : Transaction} {v : OutWord} {vs : List OutWord}
    (h : t.latch = v :: vs) : s.pop p t = s.shiftOut p { t with latch := vs } v := by
  simp [State.pop, h]

theorem State.walkFirst_portsOnly (s : State) (p : Port) (t : Transaction) : PortsOnly s (s.walkFirst p t) := by
  unfold State.walkFirst
  dsimp only
  split
  · rfl
  · split
    · exact s.failEntry_portsOnly p t _
    · split
      · exact s.failEntry_portsOnly p t _
      · split
        · rfl
        · exact s.pop_portsOnly p _

/-- A further word of a ring walk changes the port alone (R125, R126, R144 to R147). -/
theorem State.walkWord_portsOnly (s : State) (p : Port) (t : Transaction) (w : Word) : PortsOnly s (s.walkWord p t w) := by
  unfold State.walkWord
  split
  · rfl
  · split
    · unfold State.walkOffset
      split
      · rfl
      · exact s.failOffset_portsOnly p t w
    · split
      · exact s.walkFirst_portsOnly p t
      · exact s.pop_portsOnly p _

/-- A further word of a FREEZE read changes the port alone: the copy keeps its draw of free values (R166). -/
theorem State.freezeWord_portsOnly (s : State) (p : Port) (t : Transaction) : PortsOnly s (s.freezeWord p t) := by
  unfold State.freezeWord
  split
  · rfl
  · split
    · unfold State.copyFirst
      split
      · exact s.failEntry_portsOnly p t _
      · exact s.pop_portsOnly p _
    · exact s.pop_portsOnly p t

theorem State.close_portsOnly (s : State) (p : Port) : PortsOnly s (s.close p) := rfl

theorem State.fall_portsOnly (s : State) (p : Port) : PortsOnly s (s.fall p) := rfl

/-- Chip select never frames a transaction across a port reset or a start (R183, R184). -/
theorem ChipSelect.cut_eq (x : ChipSelect) : x.cut = if x = .high then .high else .ignored := by cases x <;> rfl

/-- An event at a port under reset can change chip select and the data output alone, and begins no transaction (R183). -/
theorem PortState.heldOff_eq (ps : PortState) (e : TxEvent) :
    ∃ x, ps.heldOff e = { ps with select := x, dataOut := 0xFFFF } ∧ (x = ps.select ∨ x = .high ∨ x = .ignored) := by
  cases e
  · exact ⟨_, rfl, .inr (.inr rfl)⟩
  · exact ⟨_, rfl, .inl rfl⟩
  · exact ⟨_, rfl, .inl rfl⟩
  · exact ⟨_, rfl, .inr (.inl rfl)⟩

/-- A word that is ignored with chip select low changes the data output and the count of free draws alone (R183). -/
theorem State.ignoreWord_eq (s : State) (p : Port) : s.ignoreWord p = { s.setPort p { s.port p with
    dataOut := Config.ignoredWord s.freeDraws } with freeDraws := s.freeDraws + 1 } := rfl

/-! ### Transactions (R170) -/

/-- An event between transactions is the fall of chip select, a head word of the row, the rise of chip select, a word that
is ignored with chip select low, or no event of the port. -/
theorem State.between_cases (s : State) (p : Port) (k : TxKind) (e : TxEvent) (head : Readout → Word → State) :
    s.between p k e head = s
      ∨ (e = .fall ∧ (s.port p).select = .high ∧ s.between p k e head = s.fall p)
      ∨ (∃ r w, e = .head w ∧ (s.port p).select = .low r ∧ rowOf p w = k ∧ s.between p k e head = head r w)
      ∨ (e = .rise ∧ s.between p k e head = s.close p)
      ∨ ((s.port p).select = .ignored ∧ s.between p k e head = s.ignoreWord p) := by
  unfold State.between
  split
  · split
    · rename_i h; exact .inr (.inl ⟨rfl, h, rfl⟩)
    · exact .inl rfl
  · rename_i w
    split
    · exact .inl rfl
    · rename_i r h
      split
      · rename_i hk; exact .inr (.inr (.inl ⟨r, w, rfl, h, hk, rfl⟩))
      · exact .inl rfl
    · rename_i h; exact .inr (.inr (.inr (.inr ⟨h, rfl⟩)))
  · split
    · rename_i h; exact .inr (.inr (.inr (.inr ⟨h, rfl⟩)))
    · exact .inl rfl
  · exact .inr (.inr (.inr (.inl ⟨rfl, rfl⟩)))

/-- An event of a transaction is held off by an asserted port reset, is no event of the port's transaction and changes
nothing, falls between transactions, or is a further word or the end of the transaction that stands. -/
theorem State.transact_cases (s : State) (p : Port) (k : TxKind) (e : TxEvent) (head : Readout → Word → State)
    (word : Transaction → Word → State) (rise : Transaction → State) :
    ((s.port p).resetAsserted = true ∧ s.transact p k e head word rise = s.updPort p fun ps => ps.heldOff e)
      ∨ s.transact p k e head word rise = s
      ∨ ((s.port p).resetAsserted = false ∧ (s.port p).transaction = none
          ∧ s.transact p k e head word rise = s.between p k e head)
      ∨ (∃ t w, e = .word w ∧ (s.port p).transaction = some t ∧ t.kind = k
          ∧ s.transact p k e head word rise = word t w)
      ∨ ∃ t, e = .rise ∧ (s.port p).transaction = some t ∧ t.kind = k
          ∧ s.transact p k e head word rise = rise t := by
  unfold State.transact
  split
  · rename_i h; exact .inl ⟨h, rfl⟩
  · rename_i h
    split
    · rename_i ht; exact .inr (.inr (.inl ⟨by simpa using h, ht, rfl⟩))
    · rename_i t ht
      split
      · exact .inr (.inl rfl)
      · exact .inr (.inl rfl)
      · rename_i w
        split
        · rename_i hk; exact .inr (.inr (.inr (.inl ⟨t, w, rfl, ht, hk, rfl⟩)))
        · exact .inr (.inl rfl)
      · split
        · rename_i hk; exact .inr (.inr (.inr (.inr ⟨t, rfl, ht, hk, rfl⟩)))
        · exact .inr (.inl rfl)

/-- While the port reset input is asserted every event is held off (R183). -/
theorem State.transact_heldOff {s : State} {p : Port} {k : TxKind} {e : TxEvent} (head : Readout → Word → State)
    (word : Transaction → Word → State) (rise : Transaction → State) (hr : (s.port p).resetAsserted = true) :
    s.transact p k e head word rise = s.updPort p fun ps => ps.heldOff e := by
  simp [State.transact, hr]

/-- Between transactions (R170). -/
theorem State.transact_between {s : State} {p : Port} {k : TxKind} {e : TxEvent} (head : Readout → Word → State)
    (word : Transaction → Word → State) (rise : Transaction → State) (hr : (s.port p).resetAsserted = false)
    (ht : (s.port p).transaction = none) : s.transact p k e head word rise = s.between p k e head := by
  simp [State.transact, hr, ht]

theorem State.transact_head {s : State} {p : Port} {k : TxKind} {w : Word} {r : Readout} (head : Readout → Word → State)
    (word : Transaction → Word → State) (rise : Transaction → State) (hr : (s.port p).resetAsserted = false)
    (ht : (s.port p).transaction = none) (hs : (s.port p).select = .low r) (hk : rowOf p w = k) :
    s.transact p k (.head w) head word rise = head r w := by
  simp [State.transact, State.between, hr, ht, hs, hk]

theorem State.transact_word {s : State} {p : Port} {k : TxKind} {w : Word} {t : Transaction}
    (head : Readout → Word → State) (word : Transaction → Word → State) (rise : Transaction → State)
    (hr : (s.port p).resetAsserted = false) (ht : (s.port p).transaction = some t) (hk : t.kind = k) :
    s.transact p k (.word w) head word rise = word t w := by
  simp [State.transact, hr, ht, hk]

theorem State.transact_rise {s : State} {p : Port} {k : TxKind} {t : Transaction} (head : Readout → Word → State)
    (word : Transaction → Word → State) (rise : Transaction → State) (hr : (s.port p).resetAsserted = false)
    (ht : (s.port p).transaction = some t) (hk : t.kind = k) :
    s.transact p k .rise head word rise = rise t := by
  simp [State.transact, hr, ht, hk]

/-! ### Accounts and ports: evaluations -/

/-- `t` differs from `s` in its accounts and ports at most. -/
def AccountsAndPorts (s t : State) : Prop := t = { s with accounts := t.accounts, ports := t.ports }

theorem PortsOnly.accountsAndPorts {s t : State} (h : PortsOnly s t) : AccountsAndPorts s t := by
  unfold PortsOnly AccountsAndPorts at *
  rw [h]

theorem AccountsAndPorts.trans {s t u : State} (h : AccountsAndPorts s t) (k : AccountsAndPorts t u) :
    AccountsAndPorts s u := by
  unfold AccountsAndPorts at *
  rw [k, h]

theorem State.setAccount_accountsAndPorts (s : State) (n : Nat) (a : Option Account) :
    AccountsAndPorts s (s.setAccount n a) := rfl

theorem State.setEvaluated_accountsAndPorts (s : State) (n : Nat) (r : Account × List Crossed) :
    AccountsAndPorts s (s.setEvaluated n r) :=
  (s.setAccount_accountsAndPorts n _).trans ((State.route_portsOnly _ n r.2).accountsAndPorts)

/-- An evaluated account takes the place of slot `n` and of no other. -/
theorem State.setEvaluated_account (s : State) (n m : Nat) (r : Account × List Crossed) (h : n < 24) :
    (s.setEvaluated n r).account m = if m = n then some r.1 else s.account m := by
  have hp := State.route_portsOnly (s.setAccount n (some r.1)) n r.2
  have : (s.setEvaluated n r).accounts = (s.setAccount n (some r.1)).accounts := by
    unfold State.setEvaluated; rw [hp]
  unfold State.account; rw [this]
  exact s.setAccount_account n m (some r.1) h

/-- What a close begin does (R115): it is held pending, only counted, deferred, or carried out; and a close carried out
in RESET mode evaluates the watches (R117). -/
theorem Account.closeBegin_cases (a : Account) (m : Moment) (c : CloseCause) :
    (a.ring.writing = true ∧ a.pendingClose = none ∧ a.closeBegin m c = ({ a with pendingClose := some c }, []))
      ∨ (a.ring.writing = true ∧ a.pendingClose.isSome = true ∧ a.closeBegin m c = (a.merge, []))
      ∨ (a.ring.writing = false ∧ a.policy = .hold ∧ a.ring.full = true
          ∧ a.closeBegin m c = ({ a.merge with deferredClose := true }, []))
      ∨ (a.ring.writing = false ∧ ¬(a.policy = .hold ∧ a.ring.full = true) ∧ a.mode = .reset
          ∧ a.closeBegin m c = (a.carryOut m c).evaluate none)
      ∨ (a.ring.writing = false ∧ ¬(a.policy = .hold ∧ a.ring.full = true) ∧ a.mode = .running
          ∧ a.closeBegin m c = (a.carryOut m c, [])) := by
  unfold Account.closeBegin
  cases hw : a.ring.writing <;> cases hp : a.pendingClose <;> cases hm : a.mode <;>
    by_cases hf : a.policy = .hold ∧ a.ring.full = true <;> simp_all

/-- An evaluation changes the states of watches alone (R134). -/
theorem Account.evaluate_eq (a : Account) (b : Option Booked) :
    (a.evaluate b).1 = { a with watches := (a.evaluate b).1.watches } := rfl

theorem Watch.cross_eq (w : Watch) (k : Option Crossing) : w.cross k = { w with above := (w.cross k).above } := by
  cases k with
  | none => rfl
  | some k => cases k <;> rfl

/-! ### The freeze unit -/

/-- `t` differs from `s` in its freeze unit, its ports and the count of free values drawn at most: a copy takes a draw
(R158; log entry 5). -/
def FreezeAndPorts (s t : State) : Prop := t = { s with freeze := t.freeze, ports := t.ports, freeDraws := t.freeDraws }

theorem FreezeAndPorts.refl (s : State) : FreezeAndPorts s s := rfl

theorem FreezeAndPorts.trans {s t u : State} (h : FreezeAndPorts s t) (k : FreezeAndPorts t u) :
    FreezeAndPorts s u := by
  unfold FreezeAndPorts at *
  rw [k, h]

theorem State.setFreeze_freezeAndPorts (s : State) (u : FreezeUnit) : FreezeAndPorts s (s.setFreeze u) := rfl

theorem State.grant_freezeAndPorts (s : State) (b : Fin 2) (p : Port) (n : Nat) : FreezeAndPorts s (s.grant b p n) := rfl

theorem State.reloadIfEmpty_freezeAndPorts (s : State) : FreezeAndPorts s s.reloadIfEmpty := by
  unfold State.reloadIfEmpty
  split <;> rfl

theorem State.freeBuffer_freezeAndPorts (s : State) (b : Fin 2) : FreezeAndPorts s (s.freeBuffer b) := by
  unfold State.freeBuffer
  split
  · rfl
  · rename_i w rest _
    exact FreezeAndPorts.trans (t := (s.setFreeze { s.freeze with waiting := rest }).grant b w.port w.account) rfl
      (State.reloadIfEmpty_freezeAndPorts _)

theorem State.leaveWaiting_freezeAndPorts (s : State) (p : Port) : FreezeAndPorts s (s.leaveWaiting p) :=
  FreezeAndPorts.trans (s.setFreeze_freezeAndPorts _) (State.reloadIfEmpty_freezeAndPorts _)

theorem State.giveUp_freezeAndPorts (s : State) (p : Port) : FreezeAndPorts s (s.giveUp p) := by
  unfold State.giveUp
  split
  · exact s.freeBuffer_freezeAndPorts _
  · split
    · exact s.leaveWaiting_freezeAndPorts p
    · rfl

theorem State.reclaim_freezeAndPorts (s : State) (b : Fin 2) (p : Port) : FreezeAndPorts s (s.reclaim b p) :=
  FreezeAndPorts.trans (t := s.raise p .reclaimed) rfl (State.freeBuffer_freezeAndPorts _ b)

theorem State.expireSlot_freezeAndPorts (s : State) (b : Fin 2) : FreezeAndPorts s (s.expireSlot b) := by
  unfold State.expireSlot
  split
  · split
    · rfl
    · exact s.reclaim_freezeAndPorts b _
  · rfl

theorem State.countSlots_freezeAndPorts (s : State) : FreezeAndPorts s s.countSlots := by
  unfold State.countSlots
  split
  · rfl
  · exact (FreezeAndPorts.trans (s.setFreeze_freezeAndPorts _) (State.expireSlot_freezeAndPorts _ 0)).trans
      (State.expireSlot_freezeAndPorts _ 1)

theorem State.settleReclaim_freezeAndPorts (s : State) (b : Fin 2) : FreezeAndPorts s (s.settleReclaim b) := by
  unfold State.settleReclaim
  split
  · split
    · dsimp only
      split
      · rfl
      · exact FreezeAndPorts.trans (s.setFreeze_freezeAndPorts _) (State.reclaim_freezeAndPorts _ b _)
    · rfl
  · rfl

theorem State.endFreezeRead_freezeAndPorts (s : State) (p : Port) : FreezeAndPorts s (s.endFreezeRead p) := by
  unfold State.endFreezeRead
  split
  · exact s.settleReclaim_freezeAndPorts _
  · rfl

/-! ### The joint table unit -/

/-- The lapse timer's count leaves everything but the proposal and the edge indications of ports U and F (R71, R72). -/
theorem State.countLapse_eq (s : State) :
    s.countLapse = { s with joint := s.countLapse.joint, ports := s.countLapse.ports } := by
  unfold State.countLapse
  split
  · split <;> rfl
  · rfl

/-- The count of the lapse timer changes the proposal alone of the joint table unit (R71, R72). -/
theorem State.countLapse_joint (s : State) :
    s.countLapse.joint = { s.joint with proposal := s.countLapse.joint.proposal } := by
  unfold State.countLapse
  split
  · split <;> rfl
  · rfl

/-! ### The measurement path -/

/-- `t` differs from `s` in what a window result passes through at most: wait list, engine, calculator, posting unit and
ports. -/
def ResultPath (s t : State) : Prop :=
  t = { s with waitList := t.waitList, engine := t.engine, calculator := t.calculator, posting := t.posting,
               ports := t.ports }

theorem ResultPath.refl (s : State) : ResultPath s s := rfl

theorem ResultPath.trans {s t u : State} (h : ResultPath s t) (k : ResultPath t u) : ResultPath s u := by
  unfold ResultPath at *
  rw [k, h]

theorem State.handOff_resultPath (s : State) (r : ResultRecord) : ResultPath s (s.handOff r) := rfl

theorem State.takeEntry_resultPath (s : State) : ResultPath s s.takeEntry := by
  unfold State.takeEntry
  split
  · split <;> rfl
  · rfl

theorem State.takeEntries_resultPath (n : Nat) (s : State) : ResultPath s (State.takeEntries n s) := by
  induction n generalizing s with
  | zero => rfl
  | succ n ih => exact s.takeEntry_resultPath.trans (ih _)

theorem State.settleEngine_resultPath (s : State) : ResultPath s s.settleEngine := s.takeEntries_resultPath _

/-- A busy engine takes nothing (R20). -/
theorem State.takeEntry_busy {s : State} {f : Flight} (h : s.engine.flight = some f) : s.takeEntry = s := by
  simp [State.takeEntry, h]

theorem State.takeEntries_busy {s : State} {f : Flight} (h : s.engine.flight = some f) (n : Nat) :
    State.takeEntries n s = s := by
  induction n with
  | zero => rfl
  | succ n ih => simp [State.takeEntries, State.takeEntry_busy h, ih]

theorem State.settleEngine_busy {s : State} {f : Flight} (h : s.engine.flight = some f) : s.settleEngine = s :=
  State.takeEntries_busy h _

/-- With an empty wait list the engine has nothing to take (R20). -/
theorem State.settleEngine_empty {s : State} (h : s.waitList = []) : s.settleEngine = s := by
  simp [State.settleEngine, h, State.takeEntries]

/-- The posting unit never idles with a record waiting (R92). -/
theorem Posting.takeNext_idle (u : Posting) (h : u.takeNext.current = none) : u.takeNext.waiting = [] := by
  unfold Posting.takeNext at *
  split at h <;> simp_all
  cases hw : u.waiting <;> simp_all

/-! ### Window framing -/

/-- `t` differs from `s` in its assemblers and in what a window result passes through at most. -/
def FramingPath (s t : State) : Prop :=
  t = { s with assemblers := t.assemblers, waitList := t.waitList, engine := t.engine, calculator := t.calculator,
               posting := t.posting, ports := t.ports }

theorem ResultPath.framingPath {s t : State} (h : ResultPath s t) : FramingPath s t := by
  unfold ResultPath FramingPath at *
  rw [h]

theorem FramingPath.trans {s t u : State} (h : FramingPath s t) (k : FramingPath t u) : FramingPath s u := by
  unfold FramingPath at *
  rw [k, h]

theorem State.setAssembler_framingPath (s : State) (i : Incomer) (a : Assembler) : FramingPath s (s.setAssembler i a) := rfl

theorem State.takeOpeningMarker_framingPath (s : State) (i : Incomer) (row : Row) :
    FramingPath s (s.takeOpeningMarker i row) := by
  unfold State.takeOpeningMarker
  split <;> rfl

/-- A close leaves the receivers, the accounts, the joint table, the time base and the freeze unit (R10 to R15, R20). -/
theorem State.closeWindow_framingPath (s : State) (i : Incomer) (w : OpenWindow) (c : WindowCause) (tick : Nat) :
    FramingPath s (s.closeWindow i w c tick) := by
  unfold State.closeWindow
  exact FramingPath.trans (t := { s.setAssembler i _ with waitList := _ }) rfl
    (State.settleEngine_resultPath _).framingPath

/-- So does all that an assembler does with what its receiver passes to it (R9 to R13). -/
theorem State.deliver_framingPath (s : State) (i : Incomer) (d : Delivery) : FramingPath s (s.deliver i d) := by
  unfold State.deliver
  dsimp only
  split
  · rfl
  · rfl
  · split
    · exact s.takeOpeningMarker_framingPath i _
    · split
      · exact (s.closeWindow_framingPath i _ _ _).trans (State.takeOpeningMarker_framingPath _ i _)
      · split
        · exact (s.closeWindow_framingPath i _ _ _).trans (State.takeOpeningMarker_framingPath _ i _)
        · rfl
  · rfl

end Sys2Proof.Machine
end

