-- ==== Sys2Proof/WellFormed.lean ====
section
/-! DEFINITION. Which commands are well formed: a transaction's command starts with a head word of its own row. -/

namespace Sys2Proof

/-- The event can stand in a transaction of row `k` at port `p`: its head word, if it is one, is a head word of
that row (R170, R171). -/
def TxEvent.fits (p : Port) (k : TxKind) : TxEvent → Bool
  | .fall => true
  | .head w => rowOf p w == k
  | .word _ => true
  | .rise => true

/-- Every operand of a command is held by its type, but for a transaction's head word, which must be one of the
command's row. A command whose head word is not of its row is no event of the block and changes nothing
(log entry 2). -/
def Instr.wellFormed : Instr → Bool
  | .requestRecord p e => e.fits p .request
  | .draftWrite p e => e.fits p .draft
  | .statusRead p e => e.fits p .openItem
  | .pendingSetRead p e => e.fits p .pendingSet
  | .faultRecordRead p e => e.fits p .faultRecord
  | .accountRead p e => e.fits p .account
  | .binsRead p e => e.fits p .bins
  | .ringWalk p e => e.fits p .history
  | .freezeRead p e => e.fits p .freeze
  | .badFraming p e => e.fits p .badFraming
  | .wrongDirectionAccess p e => e.fits p .wrongDirection
  | .absentItemAccess p e => e.fits p .absentItem
  | .frameArrival _ _ => true
  | .silenceExpiry _ => true
  | .timeLimitClose _ => true
  | .transformBegin => true
  | .invalidEntryLeave => true
  | .transformCompletion => true
  | .postingTake => true
  | .posting => true
  | .secondPulse => true
  | .holdoverEntry => true
  | .freeRunTick => true
  | .timerCloseBegin _ => true
  | .recordWritten _ => true
  | .pendingCloseBegin _ => true
  | .deferredCloseBegin _ => true
  | .lapse => true
  | .slotTimerExpiry _ => true
  | .deferredReclaim _ => true
  | .openAccount _ => true
  | .setRights _ => true
  | .suspend _ => true
  | .resume _ => true
  | .clearBins _ => true
  | .closeInterval _ => true
  | .releaseRecords _ => true
  | .setWatch _ => true
  | .teardown _ => true
  | .freeze _ => true
  | .unfreeze _ => true
  | .loadDraft _ => true
  | .propose _ => true
  | .concur _ => true
  | .withdraw _ => true
  | .setTime _ => true
  | .selectBand _ => true
  | .setPort _ => true
  | .portReset _ => true
  | .supplyFalling => true
  | .retentionLoss => true
  | .powerOnReset => true
  | .portResetDeassertion _ => true

end Sys2Proof
end

