-- ==== Sys2Proof/Tests/Slice0.lean ====
section
/-! SUPPORT. The model's own tests. The values that a test expects come from the manual's worked examples and tables or
from hand calculation by its rules; each test names its source. The theorems named witness_… show states and operands
that meet the hypotheses of the statements in Certificates/Slice0/Obligations.lean. -/

namespace Sys2Proof.Tests

open Sys2Proof Sys2Proof.Machine

set_option Elab.async false

/-! ### Well-formedness: each check refuses an ill-formed term -/

/-- 10.7: framing 1011, READ, PORT space, item 0. -/
theorem test_head_status_bits : headWord false .port 0 = 0b1011_0_000_00000000#16 := by decide

/-- 10.7: framing 1011, WRITE, REQUEST space, code 14. -/
theorem test_head_request_bits : headWord true .request 14 = 0b1011_1_111_00001110#16 := by decide

/-- R171, R172: the rows of head words written out bit by bit. -/
theorem test_rows_of_heads :
    rowOf .U 0xB000 = .openItem ∧ rowOf .U 0xB001 = .pendingSet ∧ rowOf .U 0xB002 = .faultRecord
      ∧ rowOf .U 0xB004 = .openItem ∧ rowOf .F 0xB108 = .account ∧ rowOf .F 0xB208 = .bins ∧ rowOf .F 0xB308 = .history
      ∧ rowOf .C 0xB400 = .freeze ∧ rowOf .C 0xB501 = .openItem ∧ rowOf .C 0xB602 = .openItem
      ∧ rowOf .U 0xBE01 = .draft ∧ rowOf .C 0xBF01 = .request := by decide

/-- R150, R170, R171: framing, then the item, then the direction. -/
theorem test_rows_of_refused_heads :
    rowOf .U 0xA000 = .badFraming ∧ rowOf .U 0xB005 = .absentItem ∧ rowOf .U 0xB401 = .absentItem
      ∧ rowOf .C 0xB601 = .absentItem ∧ rowOf .U 0xB800 = .wrongDirection ∧ rowOf .U 0xBE00 = .wrongDirection
      ∧ rowOf .U 0xB701 = .wrongDirection ∧ rowOf .U 0xB805 = .absentItem := by decide

theorem test_illformed_request : Instr.wellFormed (.requestRecord .U (.head 0xB701)) = false := by decide
theorem test_illformed_draft : Instr.wellFormed (.draftWrite .C (.head 0xBE01)) = false := by decide
theorem test_illformed_status : Instr.wellFormed (.statusRead .U (.head 0xB001)) = false := by decide
theorem test_illformed_pendingSet : Instr.wellFormed (.pendingSetRead .U (.head 0xB000)) = false := by decide
theorem test_illformed_faultRecord : Instr.wellFormed (.faultRecordRead .U (.head 0xB802)) = false := by decide
theorem test_illformed_account : Instr.wellFormed (.accountRead .U (.head 0xB900)) = false := by decide
theorem test_illformed_bins : Instr.wellFormed (.binsRead .U (.head 0xA200)) = false := by decide
theorem test_illformed_history : Instr.wellFormed (.ringWalk .U (.head 0xB200)) = false := by decide
theorem test_illformed_freeze : Instr.wellFormed (.freezeRead .U (.head 0xB401)) = false := by decide
theorem test_illformed_framing : Instr.wellFormed (.badFraming .U (.head 0xB000)) = false := by decide
theorem test_illformed_direction : Instr.wellFormed (.wrongDirectionAccess .U (.head 0xB805)) = false := by decide
theorem test_illformed_absent : Instr.wellFormed (.absentItemAccess .U (.head 0xB800)) = false := by decide
theorem test_wellformed_status : Instr.wellFormed (.statusRead .U (.head 0xB000)) = true := by decide

/-! ### Frames (R1, 10.7) -/

/-- R1: a frame of fifteen zero bytes has good CRC. -/
theorem test_crc_zero_frame : frameGood (Vector.replicate 15 0) = true := by decide +kernel

/-- The published check value of this CRC-8: F4h over the bytes 31h to 39h. -/
theorem test_crc_check_value : crc8 [0x31, 0x32, 0x33, 0x34, 0x35, 0x36, 0x37, 0x38, 0x39] = 0xF4 := by decide +kernel

/-- A marker frame: byte 0 with the cycle-start flag in bit 3, the CRC divided out by hand. -/
def markerFrame : Vector Byte 15 := #v[0x08, 0, 0, 0, 0, 0, 0, 0, 0, 0, 0, 0, 0, 0, 0x3D]

theorem test_marker_frame : frameGood markerFrame = true ∧ (frameOf markerFrame).cycleStart = true := by
  decide +kernel

/-- 10.7: the fields of a frame written out byte by byte; bits 7 and 6 of byte 1 are not assigned. -/
theorem test_frame_fields :
    frameOf #v[0x53, 0xA1, 0x12, 0x34, 0xFF, 0xFE, 0, 1, 0x80, 0, 0x7F, 0xFF, 0xAB, 0xCD, 0x74] =
      { sequence := 5, cycleStart := false, frontEndFault := false, overload := 0b100001,
        row := #v[0x1234, 0xFFFE, 0x0001, 0x8000, 0x7FFF, 0xABCD] } := by decide

/-! ### The measurement path: the manual's worked examples -/

/-- R27: the entries of the twiddle table that the manual lists, but for the sine at k = 16, where the list and the
formula differ (log entry 29). -/
theorem test_twiddles :
    ([0, 1, 32, 64, 128, 192].map fun k => (twiddleCos.getD k 7, twiddleSin.getD k 7)) =
      [(65536, 0), (65516, 1608), (46341, 46341), (0, 65536), (-65536, 0), (0, -65536)]
      ∧ twiddleCos.getD 16 7 = 60547 := by decide +kernel

/-- 2.9: the rotation pair of d = 64 at order 1, and both steps. -/
theorem test_calibration :
    (cosTurn (rotation 64 1), sinTurn (rotation 64 1)) = (65535, 402)
      ∧ gainStep 33096 { re := 2217025, im := -1280000 } = ({ re := 2239217, im := -1292813 }, false)
      ∧ calibrate 33096 64 1 ({ re := 2217025, im := -1280000 }, false)
          = ({ re := 2247113, im := -1279058 }, false) := by decide +kernel

/-- 2.10: saturation by gain, and the same phasor with a lower gain. -/
theorem test_gain_saturates :
    gainStep 36000 { re := 8000000, im := 0 } = ({ re := 8388607, im := 0 }, true)
      ∧ gainStep 34000 { re := 8000000, im := 0 } = ({ re := 8300781, im := 0 }, false) := by decide +kernel

/-- The phasor set of 3.8: phase 1 at order 1 alone, and in `hs` the phasors of orders 2 and up of V1 and I1. -/
def workedSet (vs is : List Phasor) : List (List Phasor) :=
  let z : Phasor := { re := 0, im := 0 }
  let rest := List.replicate 50 z
  [({ re := 5120000, im := 0 } :: vs) ++ List.replicate (49 - vs.length) z, rest, rest,
    ({ re := 2217025, im := -1280000 } :: is) ++ List.replicate (49 - is.length) z, rest, rest]

/-- The table of 3.8: K = 4000 for A, rL = 26214 for band 0. -/
def workedTable : Table :=
  { Table.default with weight := { a := 4000, b := 0 }, inductiveRatio := Vector.replicate 8 26214 }

/-- 3.8: the increments of the worked window. -/
theorem test_worked_increments :
    increments workedTable .A 0 1600000 (workedSet [] []) =
      [258095679, 0, 149011612, 0, 0, 0, 45774916] ++ List.replicate 27 0 := by decide +kernel

/-- 3.8: the raw figures of the worked window. -/
theorem test_worked_raw :
    rawFigures workedTable (workedSet [] []) = [11351168000000, 6553600000000] ++ List.replicate 13 0 := by
  decide +kernel

/-- 3.9: harmonics at orders 5 and 7, both in class 0: HPE0, HQ0 and HPE_ALL. -/
theorem test_worked_harmonics :
    let z : Phasor := { re := 0, im := 0 }
    let t := { workedTable with classMap := (Vector.replicate 49 15).set 3 0 |>.set 5 0 }
    let incs := increments t .A 0 1600000 (workedSet [z, z, z, { re := 100000, im := 0 }, z, { re := 50000, im := 0 }]
      [z, z, z, { re := -200000, im := 0 }, z, { re := 0, im := -100000 }])
    (incs.getD 8 7, incs.getD 16 7, incs.getD 24 7, incs.getD 32 7, incs.getD 33 7) =
      (0, 454747, 113687, 0, 454747) := by decide +kernel

/-- 3.10: the scaled increments of the substituted window. -/
theorem test_substituted :
    scaledIncrements { increments := [258095679, 149011612, 45774916, 0], ticks := 1600000, epoch := 12, limited := false }
      2000000 = [322619599, 186264515, 57218645, 0] := by decide +kernel

/-- 7.7: the rate of the worked window, and of the substituted one that followed it. -/
theorem test_rate : rateMeasure 149011612 1600000 = 3352761270000 ∧ rateMeasure 186264515 2000000 = 3352761270000 := by
  decide +kernel

/-- R175: the worked bin in FULL, WHOLE and COMPACT with k = 3. -/
theorem test_readout :
    ((binWords .full 0 false 149011612).map (·.word) = wordsOf 4 149011612)
      ∧ ((binWords .whole 0 true 149011612).map (·.word) = [0x8000, 0, 2273])
      ∧ ((binWords .compact 3 false 149011612).map (·.word) = [0, 2]) := by decide +kernel

/-- R176: a quotient above 2,147,483,647 reads as 2,147,483,647 and is marked. -/
theorem test_compact_saturates :
    binWords .compact 0 false (2147483648 * 65536) =
      [{ word := 0x7FFF, saturated := true }, { word := 0xFFFF, saturated := false }] := by decide +kernel

/-! ### States for the tests -/

/-- The state that a command answers. -/
def after : Host.Outcome State Fault Refusal → State
  | .next t => t
  | _ => State.reset

/-- `s` with a request of port `p` in flight. -/
def ask (s : State) (p : Port) (code : Byte) (ws : List Word) : State :=
  s.updPort p fun ps => { ps with inFlight := some { code := code, words := ws } }

/-- `s` with port `p` in a transaction. -/
def within (s : State) (p : Port) (x : Transaction) : State := s.updPort p fun ps => { ps with transaction := some x }

/-- A transaction of a row right after its head word. -/
def begun (k : TxKind) (w : Word) : Transaction := Transaction.begin { format := .full, exponent := 0 } k w true

/-- `s` after the fall of chip select at port `p`, through the row of STATUS_READ. -/
def fallen (s : State) (p : Port) : State := after (exec (.statusRead p .fall) s)

/-- A request record of 10.7, code 1, for slot 8: SITE, RESET, WRAP, U READ_FREEZE and C READ, every band, bins 0 and 2
of which the second is OWNER_ONLY. -/
def openWords : List Word := [0x0008, 0x8480, 0xFF02, 0, 0, 0x4000, 0, 0, 0x0002]

/-- The account that the record opens at reset. -/
def opened : Account := (openFields { code := 1, words := openWords }).account State.reset.moment

/-- Reset with that account open. -/
def one : State := State.reset.setAccount 8 (some opened)

/-- `one` with account 8 changed. -/
def oneWith (f : Account → Account) : State := State.reset.setAccount 8 (some (f opened))

/-- A history record of sequence `q` in slot `n`. -/
def record (writing : Bool) (n : Nat) (q : Count) : HistoryRecord :=
  { writing := writing, slot := n, cause := .manual, endSecond := 0, header := { opened.header with sequence := q },
    values := [0, 0] }

/-- An open window of A from tick 0 with `m` markers counted and no sample yet. -/
def window (m : Nat) (good : Bool) : OpenWindow :=
  { start := 0, limit := 2000000, fill := 0, markers := m, aligned := true, good := good }

/-- `s` with incomer A's assembler in state `x`. -/
def framing (s : State) (x : AsmState) : State := s.setAssembler .A { Assembler.initial true with state := x }

/-- A tally of a cycle that opened LOCKED at tick 0 with every frame in place. -/
def tally : CycleTally := { start := 0, openedIn := .locked, frames := 256, flawed := false }

/-- Reset at tick `now` with receiver A LOCKED in the middle of a cycle. -/
def locked (now : Nat) (c : CycleTally) (run : Nat) : State :=
  { State.reset with now := now }.setReceiver .A
    { state := .locked, silence := 5000, expected := some 0, lastMarker := some 0, cycle := some c, badRun := run }

/-- A window result of A with one unit of each quantity. -/
def result (g : Figures) : ResultRecord :=
  { incomer := .A, window := 7, epoch := 3, band := 0, cause := .markers, ticks := 1600000, limited := true,
    figures := g }

/-- `s` with a result in posting at the visit of account 8. -/
def visiting (s : State) (g : Figures) : State :=
  { s with posting := { waiting := [], current := some { record := result g, position := 8 } } }

/-- A wait-list entry of A. -/
def entry (b : Option (Fin 2)) : WaitEntry :=
  { incomer := .A, window := 1001, ticks := 2000000, cause := .timeLimit, band := 0, bank := b }

/-- A proposal of port U with serial 1. -/
def offer (remaining : Nat) : Proposal :=
  { table := { Table.default with enabled := { a := true, b := false } }, proposer := .U, serial := 1,
    remaining := remaining }

/-- Reset with that proposal pending. -/
def offered (remaining : Nat) : State :=
  State.reset.setJoint { State.reset.joint with serialCounter := 1, proposal := some (offer remaining) }

/-- A holding of port `p` with a copy of account 8. -/
def holding (p : Port) (due : Bool) : Holding :=
  { holder := p, copy := one.copyOf 8, reclaimDue := due }

/-- `one` with U holding buffer 0 with timer 0, F holding buffer 1, and C waiting. -/
def crowded (due : Bool) : State :=
  one.setFreeze { buffer0 := { timer := 0, held := some (holding .U due) },
                  buffer1 := { timer := 9, held := some (holding .F false) }, waiting := [{ port := .C, account := 8 }] }

/-! ### Commands, one step each -/

/-- R1: bad CRC flaws the open cycle. -/
theorem test_badCrc_flaws :
    ((after (exec (.frameArrival .A (Vector.replicate 15 1)) (locked 9 tally 0))).receiver .A).cycle =
      some { tally with flawed := true } := by decide +kernel

/-- R4: the first good frame in DOWN brings ACQUIRING and loads the silence counter. -/
theorem test_first_frame :
    let r := (after (exec (.frameArrival .A (Vector.replicate 15 0)) State.reset)).receiver .A
    (r.state, r.silence, r.expected) = (.acquiring, 5000, some 1) := by decide +kernel

/-- R7: a cycle of 150,000 ticks is good, and one of 225,001 ticks is not. -/
theorem test_cycle_bounds :
    (let r := (after (exec (.frameArrival .A markerFrame) (locked 150000 tally 2))).receiver .A;
      (r.state, r.badRun)) = (.locked, 0)
      ∧ (let r := (after (exec (.frameArrival .A markerFrame) (locked 225001 tally 2))).receiver .A;
        (r.state, r.badRun)) = (.acquiring, 0) := by decide +kernel

/-- 3.10: window 1,001 leaves as SUBSTITUTED; 3.11: with another epoch committed it is a GAP. -/
theorem test_invalid_entry :
    let src : Source := { increments := [258095679, 149011612], ticks := 1600000, epoch := 0, limited := false }
    let s (e : Count) : State := { State.reset.setCalc .A
        { source := some { src with epoch := e }, invalidRun := 0, latest := none } with waitList := [entry none] }
    ((after (exec .invalidEntryLeave (s 0))).calc .A).latest.map (·.figures) =
        some (.substituted [322619599, 186264515])
      ∧ ((after (exec .invalidEntryLeave (s 1))).calc .A).latest.map (·.figures) = some .gap := by decide +kernel

/-- R24, R36: the completion of a window of no samples frees its bank and leaves a VALID result. -/
theorem test_completion :
    let f : Flight := { entry := entry (some 1), snapshot := Table.default, epoch := 0 }
    let s : State := { State.reset with engine := { flight := some f, limited := false } }
    let t := after (exec .transformCompletion (s.setAssembler .A ((s.assembler .A).setBank 1 { held := true, rows := [] })))
    (t.engine.flight, ((t.assembler .A).bank 1).held, (t.calc .A).invalidRun, (t.calc .A).latest.isSome) =
      (none, false, 0, true) := by decide +kernel

/-- R83: an increment that does not fit holds the bin at 2^63 − 1 with its pinned mark. -/
theorem test_posting_pins :
    let s := oneWith fun a => { a with bins := a.bins.map fun b => { b with value := 2 ^ 63 - 2 } }
    ((after (exec .posting (visiting s (.valid (List.replicate 34 2) [])))).account 8).map (fun a =>
        (a.bins.map fun b => (b.value, b.pinned), a.header.pinnedAny, a.header.tally.a.valid)) =
      some ([(2 ^ 63 - 1, true), (2 ^ 63 - 1, true)], true, 1) := by decide +kernel

/-- R95: a SUSPENDED account counts the result as SKIPPED. -/
theorem test_posting_skips :
    ((after (exec .posting (visiting (oneWith fun a => { a with suspended := true }) .gap))).account 8).map (fun a =>
        (a.header.tally.a.skipped, a.header.tally.a.windows, a.header.epochs)) =
      some (1, some (7, 7), none) := by decide +kernel

/-- The time base of 6.9. -/
def clock (state : TimeState) (reference last streak second : Nat) : TimeBase :=
  { second := BitVec.ofNat 32 second, state := state, reference := some reference, streak := streak,
    lastAccepted := some last, freeRun := 0, band := 0 }

/-- 6.9: accepted at 10,000,400 and early at 14,000,000. -/
theorem test_pulse_accepted_early :
    (after (exec .secondPulse { State.reset with now := 10000400, time := clock .tracking 0 0 2 5000 })).time
        = clock .tracking 10000400 10000400 2 5001
      ∧ (after (exec .secondPulse { State.reset with
          now := 14000000, time := clock .tracking 10000400 10000400 2 5001 })).time
        = clock .tracking 10000400 10000400 2 5001 := by decide +kernel

/-- 6.9: the pulse at 31,500,000 is late, and the second accepted pulse in HOLDOVER brings TRACKING. -/
theorem test_pulse_late_tracking :
    (after (exec .secondPulse { State.reset with
        now := 31500000, time := clock .tracking 20000700 20000700 2 5002 })).time
        = clock .tracking 31500000 20000700 0 5002
      ∧ (after (exec .secondPulse { State.reset with
          now := 51500000, time := clock .holdover 41500100 41500100 1 5004 })).time
        = clock .tracking 51500000 51500000 2 5005 := by decide +kernel

/-- 6.9: the limit at 35,000,700 brings HOLDOVER with a second tick and FREE_RUNNING, and free run goes on. -/
theorem test_holdover_freeRun :
    (let t := after (exec .holdoverEntry { one with now := 35000700, time := clock .tracking 31500000 20000700 0 5002 });
      (t.time.state, t.time.second, (t.account 8).map (·.header.freeRunning))) = (.holdover, 5003, some true)
      ∧ (after (exec .freeRunTick { State.reset with
          time := { clock .holdover 41500100 41500100 1 5003 with freeRun := 10000000 } })).time.second = 5004 := by
  decide +kernel

/-- R113: at second 5,005 an account of period 5 is timer-due, and it takes a TIMER close. -/
theorem test_timer_close :
    let s := { (oneWith fun a => { a with period := 5 }) with
      now := 51500000, time := clock .holdover 41500100 41500100 1 5004 }
    let t := after (exec .secondPulse s)
    (t.account 8).map (·.timerDue) = some true
      ∧ ((after (exec (.timerCloseBegin 8) t)).account 8).map (fun a =>
          (a.timerDue, a.ring.records.map fun h => (h.cause, h.endSecond, h.slot, h.writing))) =
        some (false, [(.timer, 5005, 0, true)]) := by decide +kernel

/-- R118, R119: the record is STORED, and the close that was pending begins. -/
theorem test_record_written :
    let s := oneWith fun a => { a with
      pendingClose := some .bandChange, header := { a.header with sequence := 1 }
      ring := { records := [record true 31 0], emptySlot := 0 } }
    ((after (exec (.recordWritten 8) s)).account 8).map (fun a =>
        (a.pendingClose, a.header.sequence, a.ring.records.map fun h => (h.writing, h.slot, h.cause))) =
      some (none, 2, [(false, 31, .manual), (true, 0, .bandChange)]) := by decide +kernel

/-- R85, R86: the record opens account 8 for F; U does not own it. -/
theorem test_open :
    (let t := after (exec (.openAccount .F) (ask State.reset .F 1 openWords));
      ((t.port .F).slot, (t.account 8).map fun a => (a.bins.map fun b => (b.code, b.ownerOnly), a.rights))) =
      (.answered 1 .done, some ([(0, false), (2, true)], { first := .readFreeze, second := .read }))
      ∧ ((after (exec (.openAccount .U) (ask State.reset .U 1 openWords))).port .U).slot = .answered 1 .notOwner := by
  decide +kernel

/-- R85: the order of the tests: IN_USE, INVALID before DUPLICATE, and DUPLICATE. -/
theorem test_open_refused :
    ((after (exec (.openAccount .F) (ask one .F 1 openWords))).port .F).slot = .answered 1 .inUse
      ∧ ((after (exec (.openAccount .F) (ask State.reset .F 1 [8, 0, 0xFF03, 0, 0, 0, 0, 0, 0x2222, 0x0500]))).port .F).slot
        = .answered 1 .invalid
      ∧ ((after (exec (.openAccount .F) (ask State.reset .F 1 [8, 0, 0xFF02, 0, 0, 0, 0, 0, 0x0505]))).port .F).slot
        = .answered 1 .duplicate := by decide +kernel

/-- R70, R74: a draft proposed by U, and F's CONCUR with its serial, enable incomer A. -/
theorem test_concur :
    let t := after (exec (.concur .F) (ask (offered 300) .F 14 [1]))
    ((t.port .F).slot, t.joint.epoch, t.joint.proposal, (t.assembler .A).state, (t.port .C).edges) =
      (.answered 14 .done, 1, none, .awaiting, 0x840#12) := by decide +kernel

/-- R115: CLOSE_INTERVAL with 32 records in a HOLD ring is deferred and answers DONE. -/
theorem test_close_deferred :
    let s := oneWith fun a => { a with
      policy := .hold, ring := { records := (List.range 32).map fun k => record false k (BitVec.ofNat 32 k), emptySlot := 0 } }
    let t := after (exec (.closeInterval .F) (ask s .F 6 [8]))
    ((t.port .F).slot, (t.account 8).map fun a => (a.deferredClose, a.header.merged, a.ring.records.length)) =
      (.answered 6 .done, some (true, 1, 32)) := by decide +kernel

/-- R123: RELEASE_RECORDS 1 removes the records 0 and 1 and keeps 2. -/
theorem test_release :
    let ring : Ring := { records := [record false 4 0, record false 5 1, record false 6 2], emptySlot := 0 }
    let s := oneWith fun a => { a with ring := ring }
    ((after (exec (.releaseRecords .F) (ask s .F 7 [8, 0, 1]))).account 8).map (fun a =>
        a.ring.records.map fun h => (h.header.sequence, h.slot)) = some [(2, 6)] := by decide +kernel

/-- R134, R135: a crossing of a TOTAL watch with H = 0 reaches the ports of its route. -/
theorem test_watch_crossing :
    let w : Watch := { Watch.initial with enabled := true, high := 0, route := { u := true, f := false, c := false } }
    let s := oneWith fun a => { a with watches := a.watches.set 2 w }
    let t := after (exec (.clearBins .F) (ask s .F 5 [8]))
    ((t.port .U).pendingSet.map fun e => (e.account, e.watch, e.first, e.latest, e.count), (t.port .F).pendingSet) =
      ([(8, 2, .rise, .rise, 1)], []) := by decide +kernel

/-- R130: a SET_WATCH with L above H is INVALID, and one within its bounds sets the watch BELOW. -/
theorem test_setWatch :
    ((after (exec (.setWatch .F) (ask one .F 8 [8, 0x1860, 0, 0, 0, 0, 4, 0, 0, 0, 5]))).port .F).slot
        = .answered 8 .invalid
      ∧ (((after (exec (.setWatch .F) (ask one .F 8 [8, 0x1860, 0, 0, 0, 0, 5, 0, 0, 0, 5]))).account 8).map fun a =>
          a.watches[1]) = some { enabled := true, bin := 0, measure := .total, high := 5, low := 5, signalling := .edge,
                                 route := { u := true, f := true, c := false }, above := false } := by decide +kernel

/-- R148: U does not own account 8, and no account 24 exists. -/
theorem test_rights_refused :
    (let t := after (exec (.suspend .U) (ask one .U 3 [8]));
      ((t.port .U).slot, (t.port .U).fault.content)) = (.answered 3 .rights,
        some { kind := .rights, request := true, account := some 8, entry := none })
      ∧ ((after (exec (.suspend .C) (ask one .C 3 [24]))).port .C).fault.content =
        some { kind := .absentAccount, request := true, account := some 24, entry := none } := by decide +kernel

/-- R157: the lowest FREE buffer passes to the sender, and with both HELD the sender waits. -/
theorem test_freeze :
    (let t := after (exec (.freeze .U) (ask one .U 10 [8]));
      ((t.port .U).slot, t.freeze.buffer0.holder, t.freeze.buffer0.timer)) = (.answered 10 .done, some .U, 10)
      ∧ (let s := (crowded false).setFreeze { (crowded false).freeze with waiting := [] };
        let t := after (exec (.freeze .F) (ask (s.setFreeze { s.freeze with
          buffer1 := { timer := 9, held := some (holding .C false) } }) .F 10 [8]));
        ((t.port .F).slot, t.freeze.waiting)) = (.answered 10 .accepted, [{ port := .F, account := 8 }]) := by
  decide +kernel

/-- R164: the expired buffer 0 passes from U to C, and RECLAIMED is raised to U. -/
theorem test_reclaim :
    let t := after (exec (.slotTimerExpiry 0) (crowded false))
    (t.freeze.buffer0.holder, t.freeze.buffer1.timer, t.freeze.waiting, (t.port .U).edges, (t.port .C).edges) =
      (some .C, 10, [], 0x810#12, 0x808#12) := by decide +kernel

/-- R163, R164: a second tick with C waiting brings buffer 0's timer to 0, and the buffer passes from U to C. -/
theorem test_second_tick_reclaims :
    let s := (crowded false).setFreeze { (crowded false).freeze with buffer0 := { timer := 1, held := some (holding .U false) } }
    let t := after (exec .secondPulse { s with now := 10000400, time := clock .tracking 0 0 2 5000 })
    (t.freeze.buffer0.holder, t.freeze.buffer0.timer, t.freeze.buffer1.timer, t.freeze.waiting, (t.port .U).edges) =
      (some .C, 10, 10, [], 0x810#12) := by decide +kernel

/-- R177, R178: a short CONCUR is INVALID, a code that names nothing is UNKNOWN, and a whole record is in flight. -/
theorem test_request_record :
    ((after (exec (.requestRecord .U .rise) (within State.reset .U (begun .request 0xBF0E)))).port .U).slot
        = .answered 14 .invalid
      ∧ ((after (exec (.requestRecord .U .rise) (within State.reset .U (begun .request 0xBF13)))).port .U).slot
        = .answered 19 .unknown
      ∧ ((after (exec (.requestRecord .U .rise) (within State.reset .U { begun .request 0xBF0E with words := [1] }))).port
          .U).inFlight = some { code := 14, words := [1] } := by decide +kernel

/-- R180, 10.7: after a cold start the first status word shows RESTART and TIME, and reading it clears RESTART. -/
theorem test_status :
    let s := after (exec (.statusRead .U (.head 0xB000)) (fallen State.reset .U))
    let t := after (exec (.statusRead .U (.word 0)) s)
    ((s.port .U).dataOut, (t.port .U).dataOut, (t.port .U).edges, (t.port .U).cold) =
      (0xFFFF, 0x0C00, 0, false) := by decide +kernel

/-- R67: words 0 and 59 of a draft write set the frequency and the slot length. -/
theorem test_draft :
    let x := { begun .draft 0xBE01 with offset := some 59, pointer := 59 }
    let t := after (exec (.draftWrite .F (.word 0x1207)) (within State.reset .F x))
    (t.joint.draftF.table.slotLength, t.joint.draftU, t.joint.committed.slotLength) =
      (7, State.reset.joint.draftU, 10) := by decide +kernel

/-- R144, R175: the words of a bin as they are shifted out, and the word past the last bin. -/
theorem test_bins :
    let s := oneWith fun a => { a with bins := a.bins.map fun b => { b with value := 149011612 } }
    let x := { begun .bins 0xB208 with offset := some 0, format := .whole }
    let t := after (exec (.binsRead .F (.word 0)) (within s .F x))
    let u := after (exec (.binsRead .F (.word 0)) (within s .F { x with entry := 2 }))
    ((t.port .F).dataOut, (t.port .F).transaction.map fun y => y.latch.map (·.word), (u.port .F).overrun) =
      (0, some [0, 2273], true) := by decide +kernel

/-- R146: a bin that is OWNER_ONLY reads 0000h to U, with the kind RIGHTS and its index. -/
theorem test_bins_masked :
    let x := { begun .bins 0xB208 with offset := some 1, entry := 1 }
    let t := after (exec (.binsRead .U (.word 0)) (within one .U x))
    ((t.port .U).dataOut, (t.port .U).fault.content) =
      (0, some { kind := .rights, request := false, account := some 8, entry := some 1 }) := by decide +kernel

/-- R173: past the last bin every word is 0000h with OVERRUN, also once the account has been torn down. -/
theorem test_bins_past_stays :
    let s := within one .F { begun .bins 0xB208 with offset := some 2, entry := 2 }
    let t := after (exec (.binsRead .F (.word 0)) s)
    let u := after (exec (.binsRead .F (.word 0)) (t.setAccount 8 none))
    ((u.port .F).dataOut, (u.port .F).overrun, (u.port .F).fault.content) = (0, true, none) := by decide +kernel

/-- R145, R146: a slot opened again with one bin during the words of its first of two is checked at the next bin's first
word: rights that fall give a RIGHTS fault and no OVERRUN, rights that pass OVERRUN and no fault. -/
theorem test_bins_reopened_fewer :
    let s (r : Right) := oneWith fun a => { a with bins := a.bins.take 1, rights := { first := r, second := r } }
    let x := { begun .bins 0xB208 with offset := some 0, entry := 1, latch := plainWords [0] }
    let go (r : Right) := (after (exec (.binsRead .U (.word 0))
      (after (exec (.binsRead .U (.word 0)) (within (s r) .U x))))).port .U
    ((go .none).overrun, (go .none).fault.content.map (·.kind)) = (false, some .rights)
      ∧ ((go .read).overrun, (go .read).fault.content) = (true, none) := by decide +kernel

/-- R145: with the slot torn down after the head word the offset word passes, and the first bin's own check finds the
account FREE: ABSENT_ACCOUNT without an entry, and 0000h without OVERRUN. -/
theorem test_bins_torn_down :
    let t := after (exec (.binsRead .U (.word 1)) (within State.reset .U (begun .bins 0xB208)))
    let u := after (exec (.binsRead .U (.word 0)) t)
    (t.port .U).fault.content = none
      ∧ ((u.port .U).dataOut, (u.port .U).overrun, (u.port .U).fault.content) =
        (0, false, some { kind := .absentAccount, request := false, account := some 8, entry := none }) := by decide +kernel

/-- R160, R146: the first word of a copy whose buffer was given back by an UNFREEZE reads 0000h with NOT_HELD. -/
theorem test_copy_given_back :
    let s := within (after (exec (.unfreeze .U) (ask (crowded false) .U 11 []))) .U (begun .freeze 0xB400)
    let t := after (exec (.freezeRead .U (.word 0)) s)
    ((t.port .U).dataOut, (t.port .U).overrun, (t.port .U).fault.content.map (·.kind)) =
      (0, false, some .notHeld) := by decide +kernel

/-- R166: the copy of a buffer reads the same at two reads of its first word. -/
theorem test_copy_reads_same :
    let s := within (crowded false) .U (begun .freeze 0xB400)
    let t := after (exec (.freezeRead .U (.word 0)) s)
    (t.freeze.buffer 0).held = (s.freeze.buffer 0).held ∧ t.freeDraws = s.freeDraws := by decide +kernel

/-- R10, R12: a seventh marker at the tick of the time limit finds the next window open and makes it aligned. -/
theorem test_marker_at_limit :
    let t := after (exec (.frameArrival .A markerFrame) (framing (locked 2000000 tally 0) (.opened (window 6 true))))
    ((t.assembler .A).state, (t.assembler .A).nextWindow) =
      (.opened { start := 2000000, limit := 2000000, fill := 1, markers := 0, aligned := true, good := true }, 1) := by
  decide +kernel

/-- R150, R170: the words after a head word with bad framing read FFFFh. -/
theorem test_bad_framing :
    let s := after (exec (.badFraming .U (.head 0xA800)) (fallen State.reset .U))
    ((after (exec (.badFraming .U (.word 0)) s)).port .U).dataOut = 0xFFFF
      ∧ (s.port .U).fault.content = some { kind := .wrongDirection, request := true, account := none, entry := none } := by
  decide +kernel

/-- R182: a transaction is served in the settings that stood at the fall of chip select, whatever SET_PORT does before the head
word. -/
theorem test_settings_at_fall :
    let s := after (exec (.setPort .F) (ask (fallen one .F) .F 18 [0x0001, 0]))
    let t := after (exec (.binsRead .F (.head 0xB208)) s)
    ((s.port .F).settings.format, (t.port .F).transaction.map (·.format)) = (.whole, some .full) := by decide +kernel

/-- R183: a fall of chip select under an asserted port reset begins no transaction after the deassertion; the next does. -/
theorem test_fall_under_reset :
    let s := after (exec (.portResetDeassertion .U) (fallen (after (exec (.portReset .U) State.reset)) .U))
    let t := fallen (after (exec (.statusRead .U .rise) s)) .U
    ((after (exec (.statusRead .U (.head 0xB000)) s)).port .U).transaction = none
      ∧ ((after (exec (.statusRead .U (.head 0xB000)) t)).port .U).transaction.isSome = true := by decide +kernel

/-- R186, R189: an assertion raises the interruption count, and a warm start after it raises it no more. -/
theorem test_warm_start :
    let t := after (exec .powerOnReset (after (exec .supplyFalling one)))
    ((t.account 8).map fun a => (a.header.interruptions, a.header.timeSuspect, a.header.freeRunning),
      (t.port .U).cold, t.retention.interrupted) = (some (1, true, true), false, false) := by decide +kernel

/-- R188, R190: with the retention supply lost the start is cold. -/
theorem test_cold_start :
    let t := after (exec .powerOnReset (after (exec .retentionLoss one)))
    (t.account 8, (t.port .U).cold, t.retention.valid) = (none, true, true) := by decide +kernel

/-- Log entry 4: at reset nothing is due and an idle step is a tick; an expired silence counter is taken first. -/
theorem test_idle :
    (after (step State.reset)).now = 1
      ∧ (State.reset.setReceiver .B { Receiver.initial with state := .acquiring }).due = some (.silenceExpiry .B) := by
  decide +kernel

/-- 10.7: the ACCOUNT item has 102 words; the mask and count, the visibility, the first codes, and watch 0 of a bin. -/
theorem test_account_item :
    let ws := accountWords (Config.absentWord 0) 8 .U opened
    (ws.length, ws[1]?, ws[5]?, ws[8]?, ws[28]?, ws[66]?) =
      (102, some 0xFF02, some 0x4000, some 0x0002, some 0, some 0) := by decide +kernel

/-- 10.7: JOINT item 2 with the proposal pending shows it in its last three words. -/
theorem test_proposal_item :
    (proposalWords (offered 300).joint).drop 60 = [0x8000, 1, 300] ∧ (proposalWords State.reset.joint).length = 63 := by
  decide +kernel

/-- 10.7: the RESULT item of a VALID result has 203 words, of a SUBSTITUTED one 143, of a GAP 7. -/
theorem test_result_item :
    (resultWords (some (result (.valid (List.replicate 34 1) (List.replicate 15 (-1)))))).length = 203
      ∧ (resultWords (some (result (.substituted (List.replicate 34 1))))).length = 143
      ∧ resultWords (some (result .gap)) = [0xC800, 0, 7, 0, 3, 0x18, 0x6A00] := by decide +kernel

/-! ### States that meet the hypotheses of the statements -/

theorem ask_inFlight (s : State) (p : Port) (code : Byte) (ws : List Word) :
    (ask s p code ws).inFlight p code.toNat { code := code, words := ws } := by
  simp [ask, State.inFlight]

theorem witness_StepRunsFrontCommand : ({ State.reset with pending := [.posting] } : State).pending = .posting :: [] := rfl

theorem witness_IdleStepTakesDueEventOrTick :
    State.reset.pending = [] ∧ State.reset.due = none
      ∧ (State.reset.setReceiver .B { Receiver.initial with state := .acquiring }).due = some (.silenceExpiry .B) := by
  decide +kernel

theorem witness_FrameIsCheckedBeforeItIsTaken :
    (after (exec .supplyFalling State.reset)).retention.interrupted = true ∧ State.reset.retention.interrupted = false
      ∧ crc8 ((Vector.replicate 15 (1 : Byte)).toList.take 14) ≠ (Vector.replicate 15 (1 : Byte))[14]
      ∧ crc8 (markerFrame.toList.take 14) = markerFrame[14] := by decide +kernel

/-- A frame with the cycle-start flag clear at reset, and a marker one tick early. -/
theorem witness_ordinary :
    ArrivesAsOrdinary State.reset .A (Vector.replicate 15 0) ∧ ArrivesAsOrdinary (locked 149999 tally 0) .A markerFrame
      ∧ (State.reset.receiver .A).state = .down ∧ (State.reset.receiver .A).cycle = none :=
  ⟨⟨rfl, by decide +kernel, .inl (by decide +kernel)⟩, ⟨rfl, by decide +kernel, .inr ⟨0, rfl, by decide⟩⟩, rfl, rfl⟩

/-- A cycle with room for one frame and one without; a window with room for one sample, with a row for each it holds, and
one without. -/
theorem witness_ordinary_bounds :
    (¬∃ c, ((locked 9 { tally with frames := 255 } 0).receiver .A).cycle = some c ∧ 256 ≤ c.frames)
      ∧ (∃ c, ((locked 9 tally 0).receiver .A).cycle = some c ∧ 256 ≤ c.frames)
      ∧ ((framing (locked 9 tally 0) (.opened (window 0 true))).assembler .A).state = .opened (window 0 true)
      ∧ ({ window 0 true with fill := 2047 } : OpenWindow).fill
          ≤ ({ held := false, rows := List.replicate 2047 (Vector.replicate 6 0) } : Bank).rows.length
      ∧ 2048 ≤ ({ window 0 true with fill := 2048 } : OpenWindow).fill :=
  ⟨by rintro ⟨c, hc, h⟩; cases hc; revert h; decide, ⟨_, rfl, by decide⟩, rfl, Nat.le_of_eq List.length_replicate.symm, by decide⟩

theorem marker_arrives (now : Nat) (h : 150000 ≤ now) (c : CycleTally) (run : Nat) :
    ArrivesAsMarker (locked now c run) .A markerFrame := by
  refine ⟨rfl, by decide +kernel, by decide +kernel, ?_⟩
  intro m hm
  have : m = 0 := (Option.some.inj hm).symm
  subst this
  exact h

theorem witness_MarkerInLockedJudgesTheCycle :
    ArrivesAsMarker (locked 150000 tally 0) .A markerFrame ∧ ArrivesAsMarker (locked 225001 tally 2) .A markerFrame
      ∧ ((locked 150000 tally 0).receiver .A).state = .locked ∧ ((locked 150000 tally 0).receiver .A).cycle = some tally
      ∧ GoodCycle tally 150000 ∧ GoodCycle tally 225000 ∧ ¬GoodCycle tally 149999 ∧ ¬GoodCycle tally 225001
      ∧ ((locked 225001 tally 1).receiver .A).badRun + 1 < 3 ∧ 3 ≤ ((locked 225001 tally 2).receiver .A).badRun + 1 :=
  ⟨marker_arrives _ (by decide) _ _, marker_arrives _ (by decide) _ _, rfl, rfl, by unfold GoodCycle; decide,
    by unfold GoodCycle; decide, by unfold GoodCycle; decide, by unfold GoodCycle; decide, by decide, by decide⟩

/-- The first marker since start in DOWN, and the verdicts of R4 in ACQUIRING at their bounds. -/
theorem witness_marker_acquires :
    ArrivesAsMarker State.reset .A markerFrame ∧ (State.reset.receiver .A).cycle = none
      ∧ SoundCycle { tally with openedIn := .acquiring } 150000 ∧ SoundCycle { tally with openedIn := .acquiring } 225000
      ∧ ¬SoundCycle { tally with frames := 255 } 150000 ∧ ¬SoundCycle tally 225001 :=
  ⟨⟨rfl, by decide +kernel, by decide +kernel, fun _ h => nomatch h⟩, rfl, by unfold SoundCycle; decide,
    by unfold SoundCycle; decide, by unfold SoundCycle; decide, by unfold SoundCycle; decide⟩

/-- A marker in each state of the assembler: DISABLED at reset, AWAITING_MARKER, at the start tick, as the seventh, and as
the seventh at the tick of the time limit. -/
theorem witness_marker_windows :
    (State.reset.assembler .A).state = .disabled ∧ ((framing State.reset .awaiting).assembler .A).state = .awaiting
      ∧ ArrivesAsMarker (framing (locked 2000000 tally 0) (.opened (window 6 true))) .A markerFrame
      ∧ { window 6 true with start := 2000000 }.start = 2000000 ∧ (window 6 true).start ≠ 1999999
      ∧ (window 6 true).markers + 1 < 8 ∧ (window 6 true).start + (window 6 true).limit ≠ 1999999
      ∧ (window 6 true).start + (window 6 true).limit = (locked 2000000 tally 0).now :=
  ⟨rfl, rfl, marker_arrives 2000000 (by decide) tally 0, rfl, by decide, by decide, by decide, rfl⟩

/-- A window of A in flight in bank 1. -/
def flight : Flight := { entry := entry (some 1), snapshot := Table.default, epoch := 0 }

/-- A at its eighth marker, with a window in flight. -/
def eighth (good : Bool) : State :=
  { (locked 1600000 { tally with start := 1400000 } 0).setAssembler .A
      { Assembler.initial true with state := .opened (window 7 good) } with
    engine := { flight := some flight, limited := false } }

theorem witness_EighthMarkerClosesTheWindow :
    ArrivesAsMarker (eighth true) .A markerFrame ∧ ((eighth true).assembler .A).state = .opened (window 7 true)
      ∧ (window 7 true).start < (eighth true).now ∧ (window 7 true).markers = 7
      ∧ (eighth true).engine.flight = some flight ∧ (window 7 true).good = true
      ∧ GoodCycle { tally with start := 1400000 } 1600000 ∧ (window 7 false).good = false :=
  ⟨⟨rfl, by decide +kernel, by decide +kernel, by
      intro m hm
      have : m = 0 := (Option.some.inj hm).symm
      subst this
      decide +kernel⟩,
    rfl, by decide +kernel, rfl, rfl, rfl, by unfold GoodCycle; decide, rfl⟩

/-- The engine that a close finds busy, and IDLE with nothing on the list. -/
theorem witness_engine_settles :
    (eighth true).engine.flight ≠ none ∧ State.reset.engine.flight = none ∧ State.reset.waitList = [] := by
  decide +kernel

theorem witness_SilenceAndTimeLimitTakeEffect :
    (let s := State.reset.setReceiver .A { Receiver.initial with state := .locked };
      (s.receiver .A).state ≠ .down ∧ (s.receiver .A).silence = 0)
      ∧ (let s := { eighth true with now := 2000000 };
        (s.assembler .A).state = .opened (window 7 true) ∧ (window 7 true).start + (window 7 true).limit ≤ s.now
          ∧ s.engine.flight = some flight)
      ∧ (let s := { framing State.reset (.opened (window 7 true)) with now := 2000000 };
        (s.assembler .A).state = .opened (window 7 true) ∧ s.engine.flight = none) := by decide +kernel

theorem witness_HeadEntriesAreTaken :
    (let s := { State.reset with waitList := [entry (some 0)] };
      s.engine.flight = none ∧ s.waitList = entry (some 0) :: [] ∧ (entry (some 0)).bank.isSome = true)
      ∧ (let s := { State.reset with posting := { waiting := [result .gap], current := none } };
        s.posting.current = none ∧ s.posting.waiting = result .gap :: []) := by decide +kernel

/-- Reset with an invalid entry alone on the wait list, a source of epoch `e` and an invalid run. -/
def lone (e : Count) (run : Nat) : State :=
  { State.reset.setCalc .A
      { source := some { increments := [8], ticks := 1600000, epoch := e, limited := false }, invalidRun := run,
        latest := none } with waitList := [entry none] }

theorem witness_InvalidEntryIsSubstitutedOrGap :
    (lone 0 7).engine.flight = none ∧ (lone 0 7).waitList = [entry none] ∧ (entry none).bank = none
      ∧ ((lone 0 7).calc .A).source.map (·.epoch) = some (lone 0 7).joint.epoch ∧ ((lone 0 7).calc .A).invalidRun + 1 ≤ 8
      ∧ 8 < ((lone 0 8).calc .A).invalidRun + 1
      ∧ ((lone 1 0).calc .A).source.map (·.epoch) ≠ some (lone 1 0).joint.epoch
      ∧ (lone 0 7).posting = Posting.initial
      ∧ (let s := { lone 0 7 with waitList := [entry none, entry none, entry (some 0)] };
        s.engine.flight = none ∧ s.waitList = entry none :: [entry none, entry (some 0)])
      ∧ (visiting (lone 0 7) .gap).posting.current ≠ none := by decide +kernel

theorem witness_CompletionFormsTheValidRecord :
    (eighth true).engine.flight = some flight ∧ flight.entry.bank = some 1 ∧ (eighth true).waitList = []
      ∧ { eighth true with waitList := [entry none, entry (some 0)] }.engine.flight = some flight := by decide +kernel

theorem witness_PhasorsAndIncrementsKeepTheirBounds :
    (phasorSet Table.default .A []).1.length = 6 ∧ (2000000 : Nat) ≤ 2000000 := by decide +kernel

/-- A phasor set with a voltage and a current on phase 1 at order 1 alone. -/
def phase1 (re im : Int) : List (List Phasor) :=
  [[{ re := 5120000, im := 0 }], [{ re := 0, im := 0 }], [{ re := 0, im := 0 }], [{ re := re, im := im }],
    [{ re := 0, im := 0 }], [{ re := 0, im := 0 }]]

/-- The window energies P and Q of that set. -/
def energies (re im : Int) : Int × Int :=
  (windowEnergy (workedTable.weight.get .A) 1600000 ((phaseSums activePower (phase1 re im)).getD 0 0),
    windowEnergy (workedTable.weight.get .A) 1600000 ((phaseSums reactivePower (phase1 re im)).getD 0 0))

theorem witness_QuadrantIncrementsFollowTheSigns :
    (0 ≤ (energies 0 (-9)).1 ∧ 0 < (energies 0 (-9)).2) ∧ ((energies (-9) (-9)).1 < 0 ∧ 0 < (energies (-9) (-9)).2)
      ∧ ((energies (-9) 9).1 < 0 ∧ (energies (-9) 9).2 < 0) ∧ (0 ≤ (energies 0 9).1 ∧ (energies 0 9).2 < 0)
      ∧ (energies 9 0).2 = 0 := by decide +kernel

theorem witness_UnityCalibrationChangesNothing :
    (-8388607 : Int).natAbs ≤ 8388607 ∧ (8388607 : Int).natAbs ≤ 8388607 := by decide

theorem witness_OnlyTwoPartyCommitChangesTheTable :
    (exec (.concur .F) (ask (offered 300) .F 14 [1]) = .next (after (exec (.concur .F) (ask (offered 300) .F 14 [1]))))
      ∧ (after (exec (.concur .F) (ask (offered 300) .F 14 [1]))).joint.epoch = 1 := ⟨rfl, by decide +kernel⟩

theorem witness_DraftsAreLoadedAndWritten :
    (ask State.reset .U 12 []).inFlight .U 12 { code := 12, words := [] }
      ∧ (ask State.reset .F 12 []).inFlight .F 12 { code := 12, words := [] }
      ∧ (ask State.reset .C 12 []).inFlight .C 12 { code := 12, words := [] }
      ∧ (let x := { begun .draft 0xBE01 with offset := some 61, pointer := 61 }
        let s := within State.reset .U x
        (s.port .U).resetAsserted = false ∧ (s.port .U).transaction = some x ∧ x.kind = .draft ∧ x.offset = some 61
          ∧ s.joint.draft .U = some s.joint.draftU ∧ x.pointer < 62 ∧ 62 ≤ { x with pointer := 62 }.pointer
          ∧ (begun .draft 0xBE01).offset = none) :=
  ⟨ask_inFlight _ _ _ _, ask_inFlight _ _ _ _, ask_inFlight _ _ _ _, by decide +kernel⟩

theorem witness_ProposeOffersTheDraft :
    (ask State.reset .C 13 []).inFlight .C 13 { code := 13, words := [] }
      ∧ (ask (offered 1) .F 13 []).inFlight .F 13 { code := 13, words := [] }
      ∧ (ask (offered 1) .F 13 []).joint.proposal = some (offer 1)
      ∧ (ask State.reset .U 13 []).inFlight .U 13 { code := 13, words := [] } ∧ State.reset.joint.proposal = none
      ∧ State.reset.joint.draft .U = some State.reset.joint.draftU ∧ State.reset.joint.draftU.table.valid = true
      ∧ (writeTable Table.default 59 0).valid = false :=
  ⟨ask_inFlight _ _ _ _, ask_inFlight _ _ _ _, by decide +kernel, ask_inFlight _ _ _ _, rfl, rfl, by decide +kernel,
    by decide +kernel⟩

theorem witness_ConcurCommitsTheProposal :
    (ask State.reset .C 14 [1]).inFlight .C 14 { code := 14, words := [1] }
      ∧ (ask State.reset .F 14 [1]).joint.proposal = none
      ∧ (ask (offered 300) .F 14 [1]).inFlight .F 14 { code := 14, words := [1] }
      ∧ (ask (offered 300) .F 14 [1]).joint.proposal = some (offer 300) ∧ Port.F ≠ (offer 300).proposer
      ∧ ({ code := 14, words := [1] } : Request).word 0 = (offer 300).serial
      ∧ ({ code := 14, words := [2] } : Request).word 0 ≠ (offer 300).serial
      ∧ (offered 300).joint.committed.enabled.get .A = false ∧ (offer 300).table.enabled.get .A = true :=
  ⟨ask_inFlight _ _ _ _, rfl, ask_inFlight _ _ _ _, by decide +kernel⟩

theorem witness_WithdrawAndLapseEndTheProposal :
    (ask (offered 300) .U 15 []).inFlight .U 15 { code := 15, words := [] }
      ∧ (ask (offered 300) .F 15 []).inFlight .F 15 { code := 15, words := [] }
      ∧ (ask State.reset .C 15 []).inFlight .C 15 { code := 15, words := [] }
      ∧ (offered 300).joint.proposal = some (offer 300) ∧ Port.U = (offer 300).proposer
      ∧ (offered 0).joint.proposal = some (offer 0) ∧ (offer 0).remaining = 0 :=
  ⟨ask_inFlight _ _ _ _, ask_inFlight _ _ _ _, ask_inFlight _ _ _ _, by decide +kernel⟩

/-- Account 8 in band-change mode with band 5 last seen, where the record of the tests is of band 0. -/
def banded (f : Account → Account) : Account := f { opened with closeOnBandChange := true, lastBand := some 5 }

theorem banded_changes (f : Account → Account) (g : Figures) (h : (banded f).closeOnBandChange = true)
    (k : (banded f).lastBand = some 5) : BandChanges (banded f) (result g) := ⟨h, 5, k, show (5 : BitVec 3) ≠ 0 by decide⟩

theorem witness_PostingBooksTheRecord :
    let s := visiting one (.valid (List.replicate 34 2) [])
    s.posting.current = some { record := result (.valid (List.replicate 34 2) []), position := 8 }
      ∧ s.account 8 = some opened ∧ opened.suspended = false ∧ Applies opened (result .gap)
      ∧ ¬BandChanges opened (result .gap) ∧ BandChanges (banded id) (result .gap) ∧ (banded id).suspended = false
      ∧ Applies (banded id) (result .gap)
      ∧ BandChanges (banded fun a => { a with ring := { records := [record true 0 0], emptySlot := 0 } }) (result .gap) :=
  ⟨by decide +kernel, by decide +kernel, by decide +kernel, ⟨.inl rfl, by decide +kernel⟩,
    fun h => absurd h.1 (by decide +kernel), banded_changes id _ rfl rfl, by decide +kernel, ⟨.inl rfl, by decide +kernel⟩,
    banded_changes _ _ rfl rfl⟩

theorem witness_PostingPassesOverOrSkips :
    (visiting one .gap).posting.current = some { record := result .gap, position := 8 }
      ∧ (visiting one .gap).posting.waiting = [] ∧ ¬Applies { opened with bandMask := 0 } (result .gap)
      ∧ Applies { opened with suspended := true } (result .gap)
      ∧ BandChanges (banded fun a => { a with suspended := true }) (result .gap)
      ∧ (banded fun a => { a with suspended := true }).suspended = true :=
  ⟨by decide +kernel, by decide +kernel, fun h => absurd h.2 (by decide +kernel), ⟨.inl rfl, by decide +kernel⟩,
    banded_changes _ _ rfl rfl, rfl⟩

/-- The last visit of a record with another behind it, at a SUSPENDED account and at a FREE slot. -/
theorem witness_last_visit :
    let s := { (State.reset.setAccount 23 (some { opened with suspended := true })) with
      posting := { waiting := [result .gap], current := some { record := result .gap, position := 23 } } }
    s.posting.current = some { record := result .gap, position := 23 } ∧ s.posting.waiting = result .gap :: []
      ∧ s.account 23 = some { opened with suspended := true } ∧ State.reset.account 23 = none := by decide +kernel

theorem witness_OpenAccountOpensAFreeSlot :
    (ask State.reset .F 1 openWords).inFlight .F 1 { code := 1, words := openWords }
      ∧ (let f := openFields { code := 1, words := openWords }
        f.slot = 8 ∧ ownerOf f.slot = .F ∧ State.reset.account f.slot = none ∧ (one.account f.slot).isSome = true
          ∧ f.binCount = 2 ∧ f.bandMask ≠ 0 ∧ f.period = 0 ∧ f.scope = 2 ∧ f.first = 2 ∧ f.second = 1 ∧ f.codes = [0, 2])
      ∧ ownerOf 24 ≠ .U ∧ ¬([5, 5] : List Nat).Nodup := ⟨ask_inFlight _ _ _ _, by decide +kernel⟩

/-- Hypotheses that the account requests share: the sender owns an existing account. -/
theorem witness_owned (code : Byte) (ws : List Word) :
    (ask one .F code (8 :: ws)).inFlight .F code.toNat { code := code, words := 8 :: ws }
      ∧ (ask one .F code (8 :: ws)).account ({ code := code, words := 8 :: ws } : Request).account = some opened
      ∧ ownerOf ({ code := code, words := 8 :: ws } : Request).account = .F :=
  ⟨ask_inFlight _ _ _ _, rfl, rfl⟩

theorem witness_SetRightsReplacesAndTrims :
    (ask one .F 2 [8, 0x0400, 0, 0, 0]).inFlight .F 2 { code := 2, words := [8, 0x0400, 0, 0, 0] }
      ∧ one.account 8 = some opened ∧ ((0x0400#16).extractLsb' 9 2).toNat = 2 ∧ ((0x0400#16).extractLsb' 7 2).toNat = 0
      ∧ ((0x0600#16).extractLsb' 9 2).toNat = 3 := ⟨(witness_owned 2 _).1, by decide +kernel⟩

theorem witness_SuspendAndResumeSetTheState :
    (ask one .F 3 [8]).inFlight .F 3 { code := 3, words := [8] } ∧ (ask one .F 4 [8]).inFlight .F 4 { code := 4, words := [8] }
      ∧ one.account 8 = some opened ∧ ownerOf 8 = .F :=
  ⟨(witness_owned 3 _).1, (witness_owned 4 _).1, by decide +kernel, rfl⟩

theorem witness_ClearBinsClearsTheInterval :
    (ask one .F 5 [8]).inFlight .F 5 { code := 5, words := [8] } ∧ one.account 8 = some opened ∧ ownerOf 8 = .F :=
  ⟨(witness_owned 5 _).1, by decide +kernel, rfl⟩

/-- A ring of `n` records from sequence 0, the newest WRITING or not. -/
def ringOf (n : Nat) (writing : Bool) : Ring :=
  { records := (List.range n).map fun k => record (writing && k + 1 == n) k (BitVec.ofNat 32 k), emptySlot := 0 }

theorem witness_TeardownFreesTheSlot :
    (ask one .F 9 [8]).inFlight .F 9 { code := 9, words := [8] } ∧ one.account 8 = some opened ∧ ownerOf 8 = .F
      ∧ opened.ring.records = [] ∧ (ringOf 1 true).writing = true ∧ (ringOf 1 false).writing = false
      ∧ (ringOf 1 false).records ≠ [] := ⟨(witness_owned 9 _).1, by decide +kernel⟩

theorem witness_SecondPulseIsClassed :
    State.reset.time.reference = none ∧ (clock .tracking 0 0 2 0).reference = some 0
      ∧ 9998999 < 0 + 9999000 ∧ 0 + 10001000 < 10001001 ∧ (clock .holdover 0 0 0 0).streak = 0
      ∧ (clock .holdover 0 0 0 0).state ≠ .tracking ∧ (clock .holdover 0 0 1 0).streak ≠ 0 := by decide +kernel

theorem witness_HoldoverAndFreeRunMakeSecondTicks :
    (let s := { State.reset with now := 15000000, time := clock .tracking 0 0 2 0 };
      s.time.state = .tracking ∧ s.time.lastAccepted = some 0 ∧ 0 + 15000000 ≤ s.now)
      ∧ (let s := State.reset.setTime { State.reset.time with freeRun := 10000000 };
        s.time.state ≠ .tracking ∧ 10000000 ≤ s.time.freeRun)
      ∧ (offered 2).joint.proposal = some (offer 2) ∧ (offered 1).joint.proposal = some (offer 1)
      ∧ State.reset.joint.proposal = none ∧ State.reset.freeze.waiting = [] := by decide +kernel

/-- A port waits at a second tick: a timer that falls to 0 with no read open and with one, and a mark that stands. -/
theorem witness_slots_at_second_tick :
    let last (due : Bool) : State := (crowded due).setFreeze { (crowded due).freeze with
      buffer0 := { timer := 1, held := some (holding .U due) } }
    (last false).freeze.waiting = [{ port := .C, account := 8 }] ∧ (slotCounted (last false).freeze.buffer0).timer = 0
      ∧ (slotCounted (last true).freeze.buffer0).timer = 1 ∧ (last false).freezeReadOpen .U = false
      ∧ (within (last false) .U (begun .freeze 0xB400)).freezeReadOpen .U = true
      ∧ ((crowded false).freeze.buffer 0).timer = 0 := by decide +kernel

theorem witness_CloseIntervalMeetsTheTests :
    (ask one .F 6 [8]).inFlight .F 6 { code := 6, words := [8] } ∧ one.account 8 = some opened ∧ ownerOf 8 = .F
      ∧ opened.ring.writing = false ∧ opened.policy = .wrap ∧ opened.pendingClose = none
      ∧ (ringOf 32 false).records.length = 32 ∧ (ringOf 31 false).records.length < 32 ∧ (ringOf 32 true).writing = true :=
  ⟨(witness_owned 6 _).1, by decide +kernel⟩

theorem witness_HeldAndTimerClosesAreCarriedOut :
    let s := oneWith fun a => { a with timerDue := true, pendingClose := some .timer, deferredClose := true, ring := ringOf 31 false }
    (s.account 8).map (fun a => (a.ring.writing, a.ring.records.length, a.timerDue, a.pendingClose, a.deferredClose)) =
      some (false, 31, true, some .timer, true) := by decide +kernel

/-- Each test that a timer or a pending close meets: a WRITING record with and without a close pending, a full HOLD ring
and a full WRAP ring. -/
theorem witness_close_tests :
    (ringOf 2 true).writing = true ∧ (ringOf 32 false).writing = false ∧ 32 ≤ (ringOf 32 false).records.length
      ∧ opened.policy = .wrap ∧ { opened with policy := .hold }.policy = .hold ∧ (ringOf 32 true).writing = true
      ∧ (ringOf 32 true).records.length = 32 ∧ opened.pendingClose = none := by decide +kernel

theorem witness_RecordWrittenStoresTheRecord :
    let s := oneWith fun a => { a with pendingClose := some .timer, ring := ringOf 31 true }
    (s.account 8).map (fun a => (a.ring.writing, a.ring.records.length, a.pendingClose, a.rightOf 8 .U)) =
        some (true, 31, some .timer, .readFreeze)
      ∧ opened.pendingClose = none ∧ { opened with rights := { first := .none, second := .none } }.rightOf 8 .U = .none := by
  decide +kernel

theorem witness_ReleaseRecordsRemovesTheStored :
    let r : Request := { code := 7, words := [8, 0, 0] }
    let s := oneWith fun a => { a with deferredClose := true, ring := ringOf 32 false }
    (ask s .F 7 [8, 0, 0]).inFlight .F 7 r
      ∧ (s.account 8).map (fun a => (a.ring.records.filter fun h =>
          h.writing || decide (2147483648 ≤ (r.pair 1 - h.header.sequence).toNat)).length) = some 31
      ∧ ownerOf r.account = .F ∧ r.account = 8
      ∧ opened.deferredClose = false := ⟨ask_inFlight _ _ _ _, by decide +kernel⟩

theorem witness_PortUSetsTimeAndBand :
    (ask State.reset .U 16 [1, 2]).inFlight .U 16 { code := 16, words := [1, 2] }
      ∧ (ask State.reset .F 16 [1, 2]).inFlight .F 16 { code := 16, words := [1, 2] }
      ∧ (ask State.reset .U 17 [7]).inFlight .U 17 { code := 17, words := [7] }
      ∧ (ask State.reset .U 17 [8]).inFlight .U 17 { code := 17, words := [8] }
      ∧ ((7 : Word).toNat = (7#3).toNat) ∧ 7 < (8 : Word).toNat :=
  ⟨ask_inFlight _ _ _ _, ask_inFlight _ _ _ _, ask_inFlight _ _ _ _, ask_inFlight _ _ _ _, by decide⟩

theorem witness_WatchEvaluationFollowsTheTable :
    let w : Watch := { Watch.initial with enabled := true, high := 5, low := 3 }
    let a := { opened with watches := opened.watches.set 0 w }
    w.above = false ∧ w.high ≤ 5 ∧ 4 < w.high ∧ { w with above := true }.above = true ∧ 3 ≤ w.low ∧ w.low < 4
      ∧ a.watches[0]? = some w ∧ a.measureOf none w = some 0
      ∧ (⟨0, .rise, { u := true, f := false, c := false }⟩ : Crossed) ∈ [(⟨0, .rise, { u := true, f := false, c := false }⟩ : Crossed)] := by
  decide +kernel

theorem witness_SetWatchReplacesTheWatch :
    let r : Request := { code := 8, words := [8, 0x3860, 0, 0, 0, 0, 5, 0, 0, 0, 5] }
    let f := watchFields r
    (ask one .F 8 r.words).inFlight .F 8 r ∧ one.account r.account = some opened ∧ ownerOf r.account = .F
      ∧ f.watch = 3 ∧ f.bin < opened.bins.length ∧ f.measure < 2 ∧ f.signalling < 2 ∧ f.low ≤ f.high
      ∧ f.route = { u := true, f := true, c := false } ∧ opened.qualified 8 0 .U = true ∧ opened.qualified 8 0 .F = true
      ∧ opened.qualified 8 1 .U = false := ⟨(witness_owned 8 _).1, by decide +kernel⟩

theorem witness_AccountRequestsNeedOwnership :
    Instr.request (.setRights .U) = some (.U, 2) ∧ Instr.request (.teardown .U) = some (.U, 9)
      ∧ (ask one .U 2 [8]).inFlight .U 2 { code := 2, words := [8] } ∧ ownerOf 8 ≠ .U
      ∧ (ask one .U 9 [24]).inFlight .U 9 { code := 9, words := [24] } ∧ one.account 24 = none :=
  ⟨rfl, rfl, ask_inFlight _ _ _ _, by decide, ask_inFlight _ _ _ _, by decide +kernel⟩

/-- A FREEZE of a FREE slot, and of account 8 from C, which holds READ, and from U while it holds NONE. -/
theorem witness_freeze_refused :
    Instr.request (.freeze .C) = some (.C, 10)
      ∧ (ask one .C 10 [8]).inFlight .C 10 { code := 10, words := [8] } ∧ ownerOf 8 ≠ .C ∧ one.account 8 = some opened
      ∧ opened.rightOf 8 .C = .read ∧ { opened with rights := { first := .none, second := .none } }.rightOf 8 .U = .none
      ∧ (ask one .F 10 [9]).inFlight .F 10 { code := 10, words := [9] } ∧ one.account 9 = none :=
  ⟨rfl, ask_inFlight _ _ _ _, by decide, by decide +kernel, by decide +kernel, by decide +kernel, ask_inFlight _ _ _ _,
    by decide +kernel⟩

theorem witness_OnlyTheOwnerChangesAnAccount :
    Instr.request (.freeze .U) = some (.U, 10) ∧ Instr.transaction (.binsRead .U .rise) = some (.U, .bins, .rise)
      ∧ ownerOf 8 ≠ .U ∧ (∃ t, exec (.freeze .U) (ask one .U 10 [8]) = .next t)
      ∧ ∃ t, exec (.setTime .U) (ask one .U 16 [0, 0]) = .next t := ⟨rfl, rfl, by decide, ⟨_, rfl⟩, ⟨_, rfl⟩⟩

theorem witness_FreezeIsGrantedOrQueued :
    (ask one .U 10 [8]).inFlight .U 10 { code := 10, words := [8] } ∧ one.account 8 = some opened
      ∧ opened.rightOf 8 .U = .readFreeze ∧ one.freeze.heldBy .U = none ∧ one.freeze.waiting = []
      ∧ (one.freeze.buffer 0).held = none ∧ ((crowded false).freeze.heldBy .U).isSome = true
      ∧ (crowded false).freeze.heldBy .C = none ∧ { port := .C, account := 8 } ∈ (crowded false).freeze.waiting
      ∧ ((crowded false).freeze.buffer 0).held.isSome = true ∧ ((crowded false).freeze.buffer 1).held.isSome = true :=
  ⟨ask_inFlight _ _ _ _, by decide +kernel⟩

theorem witness_UnfreezeGivesTheBufferBack :
    (ask (crowded true) .U 11 []).inFlight .U 11 { code := 11, words := [] }
      ∧ (crowded true).freeze.heldBy .U = some 0 ∧ (crowded true).freeze.waiting = [{ port := .C, account := 8 }]
      ∧ (crowded true).freeze.heldBy .C = none ∧ State.reset.freeze.heldBy .U = none ∧ State.reset.freeze.waiting = []
      ∧ (after (exec (.freeze .U) (ask one .U 10 [8]))).freeze.heldBy .U = some 0
      ∧ (after (exec (.freeze .U) (ask one .U 10 [8]))).freeze.waiting = [] :=
  ⟨ask_inFlight _ _ _ _, by decide +kernel⟩

theorem witness_ExpiredSlotsAreReclaimed :
    ((crowded false).freeze.buffer 0).held = some (holding .U false) ∧ ((crowded false).freeze.buffer 0).timer = 0
      ∧ (holding .U false).reclaimDue = false ∧ (crowded false).freezeReadOpen .U = false
      ∧ (within (crowded false) .U (begun .freeze 0xB400)).freezeReadOpen .U = true
      ∧ ((crowded true).freeze.buffer 0).held = some (holding .U true) ∧ (holding .U true).reclaimDue = true
      ∧ (crowded true).freeze.waiting = [{ port := .C, account := 8 }] := by decide +kernel

/-- Ports that await a head word, their reset input not asserted, with the accounts and the freeze buffers that the head words
of the witnesses below meet. -/
theorem witness_awaits_head :
    (AwaitsHead ((fallen State.reset .U).port .U) ∧ AwaitsHead ((fallen (crowded true) .U).port .U)
        ∧ AwaitsHead ((fallen one .U).port .U))
      ∧ ((fallen State.reset .U).port .U).resetAsserted = false ∧ ((fallen one .U).port .U).resetAsserted = false
      ∧ ((fallen (crowded true) .U).port .U).resetAsserted = false ∧ (fallen State.reset .U).account 8 = none
      ∧ (fallen one .U).account 8 = some opened ∧ (fallen (crowded true) .U).freeze = (crowded true).freeze
      ∧ ((fallen State.reset .U).port .U).fault.content = none :=
  ⟨⟨⟨rfl, _, rfl⟩, ⟨rfl, _, rfl⟩, ⟨rfl, _, rfl⟩⟩, by decide +kernel⟩

/-- The states of the events between transactions: chip select high, fallen, and ignored before and after the deassertion. -/
theorem witness_chip_select :
    let s := fallen (after (exec (.portReset .U) State.reset)) .U
    let t := after (exec (.portResetDeassertion .U) s)
    (State.reset.port .U).select = .high ∧ (State.reset.port .U).transaction = none
      ∧ ((fallen State.reset .U).port .U).resetAsserted = false
      ∧ (s.port .U).resetAsserted = true ∧ (s.port .U).select = .ignored
      ∧ (t.port .U).resetAsserted = false ∧ (t.port .U).select = .ignored ∧ (t.port .U).transaction = none
      ∧ Instr.transaction (.accountRead .U .fall) = some (.U, .account, .fall)
      ∧ Instr.transaction (.accountRead .U (.word 0)) = some (.U, .account, .word 0) := by decide +kernel

theorem witness_TransactionsBeginAndEnd :
    Instr.transaction (.accountRead .U (.head 0xB108)) = some (.U, .account, .head 0xB108)
      ∧ (State.reset.port .U).transaction = none ∧ (State.reset.port .U).resetAsserted = false
      ∧ rowOf .U 0xB108 = .account ∧ Instr.transaction (.accountRead .U .rise) = some (.U, .account, .rise)
      ∧ ((within State.reset .U (begun .account 0xB108)).port .U).transaction = some (begun .account 0xB108)
      ∧ (begun .account 0xB108).kind = .account
      ∧ ((after (exec (.portReset .U) State.reset)).port .U).resetAsserted = true := by decide +kernel

theorem witness_RefusedHeadWordsWriteTheirFault :
    rowOf .U 0xA000 = .badFraming ∧ rowOf .U 0xB800 = .wrongDirection ∧ rowOf .U 0xB005 = .absentItem
      ∧ (State.reset.port .U).transaction = none ∧ (State.reset.port .U).fault.content = none
      ∧ (begun .badFraming 0xA000).kind = .badFraming := by decide +kernel

theorem witness_StatusReadClearsWhatItReturned :
    let x := { begun .openItem 0xB000 with latch := plainWords [0x0C00, 0x2000, 0, 0] }
    ((within State.reset .U x).port .U).transaction = some x ∧ x.kind = .openItem ∧ x.head = headWord false .port 0
      ∧ x.zeros = false ∧ x.pointer = 0 ∧ { x with pointer := 1 }.pointer = 1
      ∧ x.latch[0]? = some { word := 0x0C00, saturated := false }
      ∧ x.latch[1]? = some { word := 0x2000, saturated := false } := by decide +kernel

/-- The head words that STATUS_READ takes, and a JOINT read before and after its offset word, and past its last word. -/
theorem witness_open_items :
    (State.reset.port .U).transaction = none ∧ rowOf .U (headWord false .port 0) = .openItem
      ∧ rowOf .U (headWord false .port 3) = .openItem ∧ rowOf .U (headWord false .port 4) = .openItem
      ∧ rowOf .C (headWord false .result 1) = .openItem ∧ rowOf .C (headWord false .joint 0) = .openItem
      ∧ rowOf .F (headWord false .joint 1) = .openItem ∧ rowOf .C (headWord false .joint 2) = .openItem
      ∧ (let x := { begun .openItem 0xB600 with latch := plainWords [50] };
        x.head.extractLsb' 8 3 = 6#3 ∧ x.offset = none ∧ { x with offset := some 0 }.offset ≠ none
          ∧ x.head.extractLsb' 0 11 ≠ 0#11 ∧ x.latch[1]? = none) := by decide +kernel

theorem witness_PendingSetAndFaultReadsEmptyWhatWasRead :
    ((within State.reset .U (begun .pendingSet 0xB001)).port .U).transaction = some (begun .pendingSet 0xB001)
      ∧ (begun .pendingSet 0xB001).kind = .pendingSet ∧ (begun .faultRecord 0xB002).kind = .faultRecord
      ∧ ((within State.reset .U (begun .faultRecord 0xB002)).port .U).transaction = some (begun .faultRecord 0xB002)
      ∧ (State.reset.port .U).resetAsserted = false := by decide +kernel

/-- The head words of both, at a port with an entry and at one with a full record. -/
theorem witness_latched_heads :
    rowOf .U 0xB001 = .pendingSet ∧ rowOf .U 0xB002 = .faultRecord ∧ ((fallen State.reset .U).port .U).transaction = none
      ∧ (let s := State.reset.updPort .U fun ps => { ps with pendingSet := [PendingEntry.new 8 2 .fall] };
        (s.port .U).pendingSet[0]? = some (PendingEntry.new 8 2 .fall))
      ∧ ((after (exec (.badFraming .U (.head 0xA000)) (fallen State.reset .U))).port .U).fault.content ≠ none
      ∧ (begun .pendingSet 0xB001).zeros = false := by decide +kernel

/-- The set at that port, chip select fallen, keeps the laws of the ports. -/
theorem witness_pendingSet_law :
    let s := fallen (State.reset.updPort .U fun ps => { ps with pendingSet := [PendingEntry.new 8 2 .fall] }) .U
    (s.port .U).Law ∧ AwaitsHead (s.port .U) ∧ (s.port .U).resetAsserted = false :=
  ⟨⟨by decide +kernel, by decide +kernel, by decide +kernel, by decide +kernel, by decide +kernel,
    fun _ h => (nomatch h), fun h => (nomatch h)⟩, ⟨rfl, _, rfl⟩, rfl⟩

theorem witness_AccountReadIsCheckedThenShifted :
    rowOf .U 0xB108 = .account ∧ ((0xB108#16).extractLsb' 0 8).toNat = 8 ∧ one.account 8 = some opened
      ∧ opened.rightOf 8 .U ≠ .none ∧ State.reset.account 8 = none
      ∧ { opened with rights := { first := .none, second := .none } }.rightOf 8 .U = .none
      ∧ (let x := { begun .account 0xB108 with latch := plainWords [1] }
        x.kind = .account ∧ x.zeros = false ∧ x.latch[x.pointer]? = some { word := 1, saturated := false }
          ∧ x.latch[{ x with pointer := 1 }.pointer]? = none ∧ x.fail.zeros = true) := by decide +kernel

theorem witness_RingWalkSeeksTheNextRecord :
    let s := oneWith fun a => { a with ring := ringOf 3 true }
    let x := begun .history 0xB308
    ((within s .U x).port .U).transaction = some x ∧ x.kind = .history ∧ x.zeros = false ∧ x.offset = none
      ∧ (x.head.extractLsb' 0 8).toNat = 8 ∧ (ringOf 3 true).records[2]? = some (record true 2 2)
      ∧ (ringOf 3 true).records[3]? = none ∧ x.seek = none ∧ x.latch = []
      ∧ (ringOf 3 true).records.find? (fun h => decide ((h.header.sequence - 1).toNat < 2 ^ 31)) = some (record false 1 1)
      ∧ (ringOf 3 true).records.find? (fun h => decide ((h.header.sequence - 2).toNat < 2 ^ 31)) = some (record true 2 2)
      ∧ (ringOf 3 true).records.find? (fun h => decide ((h.header.sequence - 3).toNat < 2 ^ 31)) = none
      ∧ (record false 1 1).values[1]? = some 0 ∧ opened.hides 0 = false ∧ opened.hides 1 = true ∧ ownerOf 8 ≠ .U
      ∧ (let y := { x with offset := some 0, latch := [{ word := 0x7FFF, saturated := true }] }
        ((within s .U y).port .U).transaction = some y ∧ y.offset = some 0
          ∧ y.latch = { word := 0x7FFF, saturated := true } :: []) := by
  decide +kernel

/-- A port that holds no buffer, and the holder of one that may read the copy's account, whose rights on it have fallen,
and whose copy is of a slot torn down. -/
theorem witness_copy_refused :
    CopyRefused State.reset .U
        (some { kind := .notHeld, request := false, account := none, entry := none })
      ∧ CopyRefused (crowded true) .U none
      ∧ CopyRefused ((crowded true).setAccount 8
          (some { opened with rights := { first := .none, second := .none } })) .U
        (some { kind := .rights, request := false, account := some 8, entry := none })
      ∧ CopyRefused ((crowded true).setAccount 8 none) .U
        (some { kind := .absentAccount, request := false, account := some 8, entry := none }) := by
  have held : ∀ (s : State) (h : Holding), s.freeze.heldBy .U = some 0 → (s.freeze.buffer 0).held = some h →
      ∀ b g, s.freeze.heldBy .U = some b → (s.freeze.buffer b).held = some g → g = h := by
    intro s h hb hh b g hb' hg
    cases hb.symm.trans hb'
    exact (Option.some.inj (hh.symm.trans hg)).symm
  refine ⟨⟨fun _ => rfl, fun b _ hb => absurd hb (by decide +kernel +revert)⟩, ⟨fun hb => absurd hb (by decide +kernel), ?_⟩,
    ⟨fun hb => absurd hb (by decide +kernel), ?_⟩, ⟨fun hb => absurd hb (by decide +kernel), ?_⟩⟩
  · intro b g hb hg
    cases held _ (holding .U true) (by decide +kernel) (by decide +kernel) b g hb hg
    exact ⟨fun _ => rfl, fun h => absurd (h.2 opened (by decide +kernel)) (by decide +kernel)⟩
  · intro b g hb hg
    cases held _ (holding .U true) (by decide +kernel) (by decide +kernel) b g hb hg
    refine ⟨fun h => ?_, fun _ => by decide +kernel⟩
    rcases h with h | ⟨a, ha, hr⟩
    · exact absurd h (by decide +kernel)
    · have : ((crowded true).setAccount 8 (some { opened with rights := { first := .none, second := .none } })).account 8 =
          some { opened with rights := { first := .none, second := .none } } := by decide +kernel
      cases this.symm.trans ha
      exact absurd (by decide +kernel) hr
  · intro b g hb hg
    cases held _ (holding .U true) (by decide +kernel) (by decide +kernel) b g hb hg
    refine ⟨fun h => ?_, fun _ => by decide +kernel⟩
    rcases h with h | ⟨a, ha, hr⟩
    · exact absurd h (by decide +kernel)
    · have : ((crowded true).setAccount 8 none).account 8 = none := by decide +kernel
      exact nomatch this.symm.trans ha

theorem witness_FreezeReadShowsTheHeldCopy :
    rowOf .U 0xB400 = .freeze ∧ State.reset.freeze.heldBy .U = none ∧ (crowded true).freeze.heldBy .U = some 0
      ∧ ((crowded true).freeze.buffer 0).held = some (holding .U true) ∧ (holding .U true).copy.account = 8
      ∧ (crowded true).account 8 = some opened ∧ opened.rightOf 8 .U ≠ .none ∧ ((crowded true).port .U).transaction = none
      ∧ (begun .freeze 0xB400).kind = .freeze ∧ (begun .freeze 0xB400).zeros = false ∧ (begun .freeze 0xB400).entry = 0
      ∧ (crowded true).freeze.waiting = [{ port := .C, account := 8 }]
      ∧ (let x := { begun .freeze 0xB400 with entry := 1, latch := [{ word := 0x7FFF, saturated := true }] }
        ((within (crowded true) .U x).port .U).transaction = some x ∧ x.zeros = false ∧ x.entry ≠ 0
          ∧ x.latch = { word := 0x7FFF, saturated := true } :: [] ∧ { x with latch := [] }.latch = []
          ∧ { x with zeros := true }.zeros = true) := by decide +kernel

theorem witness_BinsReadChecksEachBin :
    let x := { begun .bins 0xB208 with offset := some 0 }
    ((within one .U x).port .U).transaction = some x ∧ x.kind = .bins ∧ x.zeros = false ∧ x.offset ≠ none ∧ x.latch = []
      ∧ x.past = false ∧ { x with past := true }.past = true ∧ one.account 8 = some opened ∧ opened.rightOf 8 .U ≠ .none
      ∧ (opened.bins[0]?).map (·.ownerOnly) = some false ∧ (opened.bins[0]?).map (·.value) = some 0
      ∧ (opened.bins[1]?).map (·.ownerOnly) = some true ∧ opened.bins[2]? = none ∧ State.reset.account 8 = none
      ∧ (begun .bins 0xB208).offset = none ∧ opened.bins.length = 2 ∧ x.fail.zeros = true
      ∧ ((within State.reset .U (begun .bins 0xB208)).port .U).transaction = some (begun .bins 0xB208)
      ∧ { x with latch := plainWords [0, 1] }.latch = { word := 0, saturated := false } :: plainWords [1]
      ∧ (let y := { x with entry := 2, past := true, latch := plainWords [1] }
        ((within one .U y).port .U).transaction = some y ∧ opened.bins.length ≤ y.entry
          ∧ ¬ opened.bins.length ≤ { y with entry := 1 }.entry) := by
  decide +kernel

/-- The head words of both entry spaces, for an account that U may read and one that it may not. -/
theorem witness_entry_heads :
    rowOf .U 0xB208 = .bins ∧ rowOf .U 0xB308 = .history ∧ (State.reset.port .U).transaction = none
      ∧ ((0xB208#16).extractLsb' 0 8).toNat = 8 ∧ opened.rightOf 8 .U ≠ .none ∧ State.reset.account 8 = none
      ∧ { opened with rights := { first := .none, second := .none } }.rightOf 8 .U = .none ∧ ownerOf 8 ≠ .U := by
  decide +kernel

theorem witness_RequestRecordIsJudgedAtItsEnd :
    let x := { begun .request 0xBF0E with words := [1] }
    ((within State.reset .U x).port .U).transaction = some x ∧ x.kind = .request ∧ x.head.extractLsb' 0 8 = 14
      ∧ neededWords 14 x.words = some 1 ∧ x.words.length = 1 ∧ (begun .request 0xBF0E).words.length = 0
      ∧ neededWords 19 x.words = none ∧ (State.reset.port .U).inFlight = none
      ∧ ((ask State.reset .U 14 [1]).port .U).inFlight ≠ none := by decide +kernel

/-- 10.7, R177: the lengths of the records at the bounds of the bin count, and of a code that names no request. -/
theorem test_record_lengths :
    recordLength 1 [0, 0, 0xFF28] = some 28 ∧ recordLength 1 [0, 0, 0xFF29] = some 8 ∧ recordLength 1 [0, 0, 0xFF01] = some 9
      ∧ recordLength 1 [] = some 8 ∧ recordLength 8 [] = some 11 ∧ recordLength 0 [] = none ∧ recordLength 19 [] = none := by
  decide +kernel

theorem witness_SetPortAndPortReset :
    (ask State.reset .U 18 [0x0018, 0]).inFlight .U 18 { code := 18, words := [0x0018, 0] }
      ∧ ((0x0018#16).extractLsb' 0 2).toNat = 0 ∧ ((0x0018#16).extractLsb' 2 3).toNat = 6
      ∧ ((0x001C#16).extractLsb' 2 3).toNat = 7 ∧ ((0x0003#16).extractLsb' 0 2).toNat = 3
      ∧ (offered 300).joint.proposal = some (offer 300) ∧ (offered 300).joint.draft .U ≠ none
      ∧ (crowded true).freeze.heldBy .U = some 0 ∧ (crowded true).freeze.waiting = [{ port := .C, account := 8 }]
      ∧ (crowded true).freeze.heldBy .C = none ∧ (∃ w ∈ (crowded true).freeze.waiting, w.port = .C)
      ∧ State.reset.freeze.heldBy .U = none ∧ State.reset.freeze.waiting = []
      ∧ (State.reset.port .U).edges.getLsbD 11 = true ∧ State.reset.eventLineLow .U = false
      ∧ (State.reset.updPort .U fun ps =>
          { ps with settings := { ps.settings with enables := 0x800 } }).eventLineLow .U = true :=
  ⟨ask_inFlight _ _ _ _, by decide +kernel⟩

/-- The states of the witnesses above keep the laws of the freeze unit. -/
theorem witness_freezeLaw (due : Bool) : (crowded due).FreezeLaw := by
  cases due <;>
    exact ⟨by decide +kernel, by decide +kernel, by decide +kernel, by decide +kernel, by decide +kernel, by decide +kernel⟩

theorem witness_SupplyFallingInterruptsOnce :
    State.reset.retention.interrupted = false ∧ (after (exec .supplyFalling one)).retention.interrupted = true := by
  decide +kernel

theorem witness_PowerOnResetStartsWarmOrCold :
    State.reset.retention.valid = true ∧ (after (exec .retentionLoss one)).retention.valid = false := by decide +kernel

/-! ### Laws: states other than reset that keep them -/

theorem witness_StepKeepsReceiverLaw :
    (locked 9 tally 2).ReceiverLaw ∧ ∃ t, step (locked 9 tally 2) = .next t := by
  refine ⟨?_, _, rfl⟩
  intro i
  cases i
  · refine ⟨by decide, by decide, by decide, by decide, ?_⟩
    intro c hc
    have : c = tally := (Option.some.inj hc).symm
    subst this
    decide
  · refine ⟨by decide, by decide, by decide, by decide, ?_⟩
    intro c hc
    exact nomatch (show none = some c from hc)

theorem witness_StepKeepsPathLaw :
    let s := { eighth true with joint := (offered 1).joint.commit (offer 1).table, waitList := [entry none] }
    s.PathLaw ∧ ∃ t, step s = .next t := by
  refine ⟨⟨?_, by decide +kernel, by decide +kernel, ?_⟩, _, rfl⟩
  · intro i
    cases i
    · refine ⟨by decide +kernel, by decide, by decide, ?_⟩
      intro w hw
      have : w = window 7 true := (AsmState.opened.inj hw).symm
      subst this
      decide
    · refine ⟨by decide +kernel, by decide, by decide, ?_⟩
      intro w hw
      exact nomatch (show AsmState.disabled = .opened w from hw)
  · intro v hv
    exact nomatch (show none = some v from hv)

theorem witness_StepKeepsJointLaw : (offered 300).JointLaw ∧ ∃ t, step (offered 300) = .next t := by
  refine ⟨⟨by decide +kernel, ?_⟩, _, rfl⟩
  intro q hq
  have : q = offer 300 := (Option.some.inj hq).symm
  subst this
  decide +kernel

/-- Account 8 alone is open in `oneWith f`. -/
theorem oneWith_account (f : Account → Account) (n : Nat) (a : Account) (h : (oneWith f).account n = some a) :
    n = 8 ∧ a = f opened := by
  have e : (oneWith f).account n = if n = 8 then some (f opened) else State.reset.account n :=
    State.setAccount_account _ _ _ _ (by decide)
  rw [e] at h
  split at h
  · exact ⟨by assumption, (Option.some.inj h).symm⟩
  · have hn : n < 24 := State.lt_of_account_some h
    have : State.reset.account n = none := by
      simp [State.reset, State.account, hn]
    simp [this] at h

theorem witness_StepKeepsAccountLaw :
    let s := oneWith fun a => { a with pendingClose := some .timer, ring := ringOf 2 true }
    s.AccountLaw ∧ ∃ t, step s = .next t := by
  refine ⟨?_, _, rfl⟩
  intro n a h
  obtain ⟨rfl, rfl⟩ := oneWith_account _ n a h
  refine ⟨by decide +kernel, by decide +kernel, by decide +kernel, by decide +kernel, by decide +kernel, by decide +kernel,
    by decide +kernel, by decide +kernel, by decide +kernel, ⟨by decide +kernel, by decide +kernel, ?_⟩, by decide +kernel,
    by decide +kernel⟩
  intro k h hk
  match k, hk with
  | 0, hk =>
    have : h = record false 0 0 := (Option.some.inj hk).symm
    subst this
    decide +kernel
  | 1, hk =>
    have : h = record true 1 1 := (Option.some.inj hk).symm
    subst this
    decide +kernel
  | k + 2, hk => exact absurd hk (by simp [ringOf])

/-- A watch with U in its route. -/
def toU : Watch := { Watch.initial with route := { u := true, f := false, c := false } }

/-- Account 8 with its watches routed to U, and a crossing of watch 0 in U's pending set. -/
def routed : State :=
  (oneWith fun a => { a with watches := Vector.replicate 4 toU }).updPort .U fun ps =>
    { ps with pendingSet := [PendingEntry.new 8 0 .rise] }

theorem witness_StepKeepsRouteLaw : routed.RouteLaw ∧ ∃ t, step routed = .next t := by
  refine ⟨⟨?_, ?_⟩, _, rfl⟩
  · intro n a k w p hn hw hr
    obtain ⟨rfl, rfl⟩ := oneWith_account (fun a => { a with watches := Vector.replicate 4 toU }) n a hn
    have : w = toU := by
      have := Vector.mem_of_getElem? hw
      simpa using (Vector.mem_replicate.mp this).2
    subst this
    cases p <;> first | exact absurd hr (by decide) | decide +kernel
  · intro p e he
    cases p
    · have : e = PendingEntry.new 8 0 .rise := List.mem_singleton.mp he
      subst this
      exact ⟨_, _, rfl, rfl, by decide +kernel⟩
    · exact absurd he (List.not_mem_nil)
    · exact absurd he (List.not_mem_nil)

theorem witness_StepKeepsPortLaw : routed.PortLaw ∧ ∃ t, step routed = .next t := by
  refine ⟨?_, _, rfl⟩
  intro p
  cases p <;> exact ⟨by decide +kernel, by decide +kernel, by decide +kernel, by decide +kernel, by decide +kernel,
    fun _ h => (nomatch h), fun h => (nomatch h)⟩

theorem witness_StepKeepsFreezeLaw : (crowded false).FreezeLaw ∧ ∃ t, step (crowded false) = .next t :=
  ⟨witness_freezeLaw false, _, rfl⟩

end Sys2Proof.Tests
end

/-! The quadrant reactive increments of a VALID result (R45): where they stand among the 34 increments, and what they
are for each pair of signs of P and Q. -/

namespace Sys2Proof.Machine

/-! ### The quadrants by the signs of P and Q -/

theorem quadrants_of_nonneg_of_pos {p q : Int} (hp : 0 ≤ p) (hq : 0 < q) : quadrants p q = [q.natAbs, 0, 0, 0] := by
  simp [quadrants, hp, hq, hp.not_gt, hq.not_gt]

theorem quadrants_of_neg_of_pos {p q : Int} (hp : p < 0) (hq : 0 < q) : quadrants p q = [0, q.natAbs, 0, 0] := by
  simp [quadrants, hp, hq, hp.not_ge, hq.not_gt]

theorem quadrants_of_neg_of_neg {p q : Int} (hp : p < 0) (hq : q < 0) : quadrants p q = [0, 0, q.natAbs, 0] := by
  simp [quadrants, hp, hq, hp.not_ge, hq.not_gt]

theorem quadrants_of_nonneg_of_neg {p q : Int} (hp : 0 ≤ p) (hq : q < 0) : quadrants p q = [0, 0, 0, q.natAbs] := by
  simp [quadrants, hp, hq, hp.not_gt, hq.not_gt]

@[simp] theorem quadrants_zero_right (p : Int) : quadrants p 0 = [0, 0, 0, 0] := by
  simp [quadrants]

/-! ### Their place among the increments -/

/-- Codes 2 to 5 of a VALID result are the quadrants of the fundamental window energies (R43, R45). -/
theorem increments_getElem?_quadrants (t : Table) (i : Incomer) (band : BitVec 3) (ticks : Nat)
    (zs : List (List Phasor)) {k : Nat} (hk : k < 4) :
    (increments t i band ticks zs)[2 + k]? =
      (quadrants (windowEnergy (t.weight.get i) ticks ((phaseSums activePower zs).getD 0 0))
        (windowEnergy (t.weight.get i) ticks ((phaseSums reactivePower zs).getD 0 0)))[k]? := by
  match k, hk with
  | 0, _ | 1, _ | 2, _ | 3, _ => rfl

/-- A VALID result whose quadrants are `[a, b, c, d]` carries them at codes 2 to 5. -/
theorem increments_codes_of_quadrants_eq {t : Table} {i : Incomer} {band : BitVec 3} {ticks : Nat}
    {zs : List (List Phasor)} {a b c d : Nat}
    (h : quadrants (windowEnergy (t.weight.get i) ticks ((phaseSums activePower zs).getD 0 0))
      (windowEnergy (t.weight.get i) ticks ((phaseSums reactivePower zs).getD 0 0)) = [a, b, c, d]) :
    (increments t i band ticks zs)[2]? = some a ∧ (increments t i band ticks zs)[3]? = some b
      ∧ (increments t i band ticks zs)[4]? = some c ∧ (increments t i band ticks zs)[5]? = some d := by
  have place {k : Nat} (hk : k < 4) : (increments t i band ticks zs)[2 + k]? = [a, b, c, d][k]? :=
    h ▸ increments_getElem?_quadrants t i band ticks zs hk
  exact ⟨place (k := 0) (by decide), place (k := 1) (by decide), place (k := 2) (by decide), place (k := 3) (by decide)⟩

/-- Settles O13: the quadrants stand at codes 2 to 5, and each pair of signs of P and Q chooses one of them. -/
theorem quadrantIncrementsFollowTheSigns : Obligations.QuadrantIncrementsFollowTheSigns := by
  rintro t i band ticks zs p q rfl rfl incs rfl
  refine ⟨fun hp hq => ?_, fun hp hq => ?_, fun hp hq => ?_, fun hp hq => ?_, fun hq => ?_⟩
  · exact increments_codes_of_quadrants_eq (quadrants_of_nonneg_of_pos hp hq)
  · exact increments_codes_of_quadrants_eq (quadrants_of_neg_of_pos hp hq)
  · exact increments_codes_of_quadrants_eq (quadrants_of_neg_of_neg hp hq)
  · exact increments_codes_of_quadrants_eq (quadrants_of_nonneg_of_neg hp hq)
  · exact increments_codes_of_quadrants_eq (by rw [hq, quadrants_zero_right])

end Sys2Proof.Machine

/-! SUSPEND and RESUME (R88): the owner's request passes the directory check and sets the account's state alone. -/

namespace Sys2Proof.Machine

/-- The owner's request on its OPEN or SUSPENDED account passes the directory level of R143, whatever the right it needs:
it acts on the account's record and its response answers it (R148, R177). -/
theorem State.take_onAccount_of_owner {s : State} {p : Port} {code : Nat} {r : Request} {a : Account} (need : Need)
    (act : Request → Account → Response × State) (hr : s.inFlight p code r) (ha : s.account r.account = some a)
    (howner : ownerOf r.account = p) :
    s.take p code (fun q => s.onAccount p q.account need (act q)) = (act r a).2.respond p r.code (act r a).1 := by
  obtain ⟨hflight, hcode⟩ := hr
  have permitted : a.permits r.account p need = true := howner ▸ a.permits_owner r.account need
  have taken : s.onAccount p r.account need (act r) = act r a := State.onAccount_of_permits (act r) ha permitted
  rw [State.take_of_inFlight _ hflight hcode, taken]

theorem exec_suspend_of_owner {s : State} {p : Port} {r : Request} {a : Account} (hr : s.inFlight p 3 r)
    (ha : s.account r.account = some a) (howner : ownerOf r.account = p) :
    exec (.suspend p) s
      = .next ((s.setAccount r.account (some { a with suspended := true })).respond p r.code .done) :=
  congrArg Host.Outcome.next (State.take_onAccount_of_owner .ownership
    (fun q b => (.done, s.setAccount q.account (some { b with suspended := true }))) hr ha howner)

theorem exec_resume_of_owner {s : State} {p : Port} {r : Request} {a : Account} (hr : s.inFlight p 4 r)
    (ha : s.account r.account = some a) (howner : ownerOf r.account = p) :
    exec (.resume p) s
      = .next ((s.setAccount r.account (some { a with suspended := false })).respond p r.code .done) :=
  congrArg Host.Outcome.next (State.take_onAccount_of_owner .ownership
    (fun q b => (.done, s.setAccount q.account (some { b with suspended := false }))) hr ha howner)

/-- Settles O26: each request is the owner's, so it is taken on the account's record and sets its state alone. -/
theorem suspendAndResumeSetTheState : Obligations.SuspendAndResumeSetTheState := by
  intro s p r a ha howner
  exact ⟨fun hr => exec_suspend_of_owner hr ha howner, fun hr => exec_resume_of_owner hr ha howner⟩

end Sys2Proof.Machine

/-! What each command can change of the state, said once: its footprint. Every law of a block is then proved for the
commands whose footprint reaches the block, and stands for all others. -/

namespace Sys2Proof.Machine

/-! ### Footprints -/

/-- The parts of the state that a command may change; its ports and the count of free draws are always among them. -/
structure Footprint where
  receivers : Bool := false
  assemblers : Bool := false
  /-- The wait list, the engine and the calculator. -/
  results : Bool := false
  posting : Bool := false
  time : Bool := false
  accounts : Bool := false
  joint : Bool := false
  freeze : Bool := false
  retention : Bool := false

/-- `t` agrees with `s` outside the footprint. -/
structure Leaves (f : Footprint) (s t : State) : Prop where
  pending : t.pending = s.pending
  now : t.now = s.now
  receivers : f.receivers = false → t.receivers = s.receivers
  assemblers : f.assemblers = false → t.assemblers = s.assemblers
  waitList : f.results = false → t.waitList = s.waitList
  engine : f.results = false → t.engine = s.engine
  calculator : f.results = false → t.calculator = s.calculator
  posting : f.posting = false → t.posting = s.posting
  time : f.time = false → t.time = s.time
  accounts : f.accounts = false → t.accounts = s.accounts
  joint : f.joint = false → t.joint = s.joint
  freeze : f.freeze = false → t.freeze = s.freeze
  retention : f.retention = false → t.retention = s.retention

theorem Leaves.refl (f : Footprint) (s : State) : Leaves f s s := by constructor <;> intros <;> rfl

theorem Leaves.trans {f : Footprint} {s t u : State} (h : Leaves f s t) (k : Leaves f t u) : Leaves f s u where
  pending := k.pending.trans h.pending
  now := k.now.trans h.now
  receivers e := (k.receivers e).trans (h.receivers e)
  assemblers e := (k.assemblers e).trans (h.assemblers e)
  waitList e := (k.waitList e).trans (h.waitList e)
  engine e := (k.engine e).trans (h.engine e)
  calculator e := (k.calculator e).trans (h.calculator e)
  posting e := (k.posting e).trans (h.posting e)
  time e := (k.time e).trans (h.time e)
  accounts e := (k.accounts e).trans (h.accounts e)
  joint e := (k.joint e).trans (h.joint e)
  freeze e := (k.freeze e).trans (h.freeze e)
  retention e := (k.retention e).trans (h.retention e)

theorem PortsOnly.leaves {s t : State} (h : PortsOnly s t) (f : Footprint) : Leaves f s t := by
  rw [h]; constructor <;> intros <;> rfl

theorem AccountsAndPorts.leaves {s t : State} (h : AccountsAndPorts s t) {f : Footprint} (hf : f.accounts = true) :
    Leaves f s t := by
  rw [h]; constructor <;> simp [hf]

theorem FreezeAndPorts.leaves {s t : State} (h : FreezeAndPorts s t) {f : Footprint} (hf : f.freeze = true) :
    Leaves f s t := by
  rw [h]; constructor <;> simp [hf]

theorem ResultPath.leaves {s t : State} (h : ResultPath s t) {f : Footprint} (hr : f.results = true)
    (hp : f.posting = true) : Leaves f s t := by
  rw [h]; constructor <;> simp [hr, hp]

theorem FramingPath.leaves {s t : State} (h : FramingPath s t) {f : Footprint} (ha : f.assemblers = true)
    (hr : f.results = true) (hp : f.posting = true) : Leaves f s t := by
  rw [h]; constructor <;> simp [ha, hr, hp]

/-! ### Updates of one part -/

theorem State.updPort_leaves (s : State) (f : Footprint) (p : Port) (g : PortState → PortState) :
    Leaves f s (s.updPort p g) := (s.updPort_portsOnly p g).leaves f

theorem State.setAccount_leaves (s : State) {f : Footprint} (hf : f.accounts = true) (n : Nat) (a : Option Account) :
    Leaves f s (s.setAccount n a) := (s.setAccount_accountsAndPorts n a).leaves hf

theorem State.setEvaluated_leaves (s : State) {f : Footprint} (hf : f.accounts = true) (n : Nat)
    (r : Account × List Crossed) : Leaves f s (s.setEvaluated n r) := (s.setEvaluated_accountsAndPorts n r).leaves hf

theorem State.mapAccounts_leaves (s : State) {f : Footprint} (hf : f.accounts = true) (g : Account → Account) :
    Leaves f s (s.mapAccounts g) := by constructor <;> simp [hf]

theorem State.setTime_leaves (s : State) {f : Footprint} (hf : f.time = true) (t : TimeBase) :
    Leaves f s (s.setTime t) := by constructor <;> simp [hf]

theorem State.setJoint_leaves (s : State) {f : Footprint} (hf : f.joint = true) (j : Joint) :
    Leaves f s (s.setJoint j) := by constructor <;> simp [hf]

theorem State.setReceiver_leaves (s : State) {f : Footprint} (hf : f.receivers = true) (i : Incomer) (r : Receiver) :
    Leaves f s (s.setReceiver i r) := by constructor <;> simp [hf]

theorem State.setAssembler_leaves (s : State) {f : Footprint} (hf : f.assemblers = true) (i : Incomer)
    (a : Assembler) : Leaves f s (s.setAssembler i a) := by constructor <;> simp [hf]

theorem State.countLapse_leaves (s : State) {f : Footprint} (hf : f.joint = true) : Leaves f s s.countLapse := by
  rw [s.countLapse_eq]; constructor <;> simp [hf]

/-! ### Requests and transactions -/

theorem State.take_leaves (s : State) (f : Footprint) (p : Port) (code : Nat) (act : Request → Response × State)
    (h : ∀ r, Leaves f s (act r).2) : Leaves f s (s.take p code act) := by
  obtain he | ⟨r, _, _, he⟩ := s.take_cases p code act <;> rw [he]
  · exact .refl f s
  · exact (h r).trans (State.updPort_leaves _ f p _)

theorem State.onAccount_leaves (s : State) (f : Footprint) (p : Port) (n : Nat) (need : Need)
    (act : Account → Response × State) (h : ∀ a, s.account n = some a → Leaves f s (act a).2) :
    Leaves f s (s.onAccount p n need act).2 := by
  obtain ⟨i, he⟩ | ⟨a, ha, _, he⟩ := s.onAccount_cases p n need act <;> rw [he]
  · exact PortsOnly.leaves (t := s.writeFault p i) rfl f
  · exact h a ha

theorem State.takeOnAccount_leaves (s : State) (f : Footprint) (p : Port) (code : Nat) (need : Need)
    (act : Request → Account → Response × State)
    (h : ∀ r a, s.account r.account = some a → Leaves f s (act r a).2) :
    Leaves f s (s.take p code fun r => s.onAccount p r.account need (act r)) :=
  s.take_leaves f p code _ fun r => s.onAccount_leaves f p r.account need (act r) (h r)

theorem State.drawn_leaves (s : State) (f : Footprint) : Leaves f s s.drawn := by constructor <;> intros <;> rfl

theorem State.between_leaves (s : State) (f : Footprint) (p : Port) (k : TxKind) (e : TxEvent)
    (head : Readout → Word → State) (h : ∀ r w, Leaves f s (head r w)) : Leaves f s (s.between p k e head) := by
  obtain he | ⟨_, _, he⟩ | ⟨r, w, _, _, _, he⟩ | ⟨_, he⟩ | ⟨_, he⟩ := s.between_cases p k e head <;> rw [he]
  · exact .refl f s
  · exact s.updPort_leaves f p _
  · exact h r w
  · exact s.updPort_leaves f p _
  · exact (s.drawn_leaves f).trans (s.drawn.updPort_leaves f p _)

theorem State.transact_leaves (s : State) (f : Footprint) (p : Port) (k : TxKind) (e : TxEvent)
    (head : Readout → Word → State) (word : Transaction → Word → State) (rise : Transaction → State)
    (hh : ∀ r w, Leaves f s (head r w)) (hw : ∀ t w, Leaves f s (word t w)) (hr : ∀ t, Leaves f s (rise t)) :
    Leaves f s (s.transact p k e head word rise) := by
  obtain ⟨_, he⟩ | he | ⟨_, _, he⟩ | ⟨t, w, _, _, _, he⟩ | ⟨t, _, _, _, he⟩ := s.transact_cases p k e head word rise <;>
    rw [he]
  · exact s.updPort_leaves f p _
  · exact .refl f s
  · exact s.between_leaves f p k e head hh
  · exact hw t w
  · exact hr t

/-- The words and the end of a read that changes its port alone. -/
theorem State.readOnly_leaves (s : State) (f : Footprint) (p : Port) (k : TxKind) (e : TxEvent)
    (head : Readout → Word → State) (word : Transaction → Word → State) (rise : Transaction → State)
    (hh : ∀ r w, Leaves f s (head r w)) (hw : ∀ t w, PortsOnly s (word t w)) (hr : ∀ t, PortsOnly s (rise t)) :
    Leaves f s (s.transact p k e head word rise) :=
  s.transact_leaves f p k e head word rise hh (fun t w => (hw t w).leaves f) fun t => (hr t).leaves f

/-! ### The commit and the second tick -/

theorem State.dropEntries_leaves (s : State) {f : Footprint} (ha : f.assemblers = true) (hr : f.results = true)
    (i : Incomer) : Leaves f s (s.dropEntries i) := by
  have freed : ∀ (es : List WaitEntry) (t : State), Leaves f t (es.foldl State.freeBank t) := by
    intro es
    induction es with
    | nil => exact fun t => .refl f t
    | cons e es ih =>
      intro t
      refine Leaves.trans (t := t.freeBank e) ?_ (ih _)
      unfold State.freeBank
      split
      · exact t.setAssembler_leaves ha _ _
      · exact .refl f t
  refine (freed (s.waitList.filter fun e => e.incomer == i) s).trans ?_
  constructor <;> simp [State.dropEntries, hr]

theorem State.commitIncomer_leaves (s : State) {f : Footprint} (ha : f.assemblers = true) (hr : f.results = true)
    (i : Incomer) (was now : Bool) : Leaves f s (s.commitIncomer i was now) := by
  have cleared (t : State) : Leaves f t (t.clearRun i) := by constructor <;> simp [State.clearRun, hr]
  unfold State.commitIncomer
  split
  · exact .refl f s
  · split
    · exact (s.setAssembler_leaves ha i _).trans (cleared _)
    · exact ((s.setAssembler_leaves ha i _).trans (State.dropEntries_leaves _ ha hr i)).trans (cleared _)

theorem State.commit_leaves (s : State) {f : Footprint} (ha : f.assemblers = true) (hr : f.results = true)
    (hj : f.joint = true) (t : Table) : Leaves f s (s.commit t) := by
  have cleared (t : State) : Leaves f t t.clearSources := by constructor <;> simp [State.clearSources, hr]
  exact ((((s.setJoint_leaves hj _).trans (State.commitIncomer_leaves _ ha hr .A _ _)).trans
    (State.commitIncomer_leaves _ ha hr .B _ _)).trans (cleared _)).trans ((State.raiseAll_portsOnly _ _).leaves f)

theorem State.secondTick_leaves (s : State) {f : Footprint} (ht : f.time = true) (ha : f.accounts = true)
    (hj : f.joint = true) (hz : f.freeze = true) : Leaves f s s.secondTick :=
  (((s.setTime_leaves ht _).trans (State.countLapse_leaves _ hj)).trans
    ((State.countSlots_freezeAndPorts _).leaves hz)).trans (State.mapAccounts_leaves _ ha _)

/-! ### The footprint of each command -/

/-- What a command can change (chapters 1 to 11). -/
def footprintOf : Instr → Footprint
  | .frameArrival _ _ => { receivers := true, assemblers := true, results := true, posting := true }
  | .silenceExpiry _ => { receivers := true }
  | .timeLimitClose _ => { assemblers := true, results := true, posting := true }
  | .transformBegin => { results := true, posting := true }
  | .invalidEntryLeave => { results := true, posting := true }
  | .transformCompletion => { assemblers := true, results := true, posting := true }
  | .postingTake => { posting := true }
  | .posting => { posting := true, accounts := true }
  | .secondPulse => { time := true, accounts := true, joint := true, freeze := true }
  | .holdoverEntry => { time := true, accounts := true, joint := true, freeze := true }
  | .freeRunTick => { time := true, accounts := true, joint := true, freeze := true }
  | .timerCloseBegin _ | .recordWritten _ | .pendingCloseBegin _ | .deferredCloseBegin _ => { accounts := true }
  | .lapse => { joint := true }
  | .slotTimerExpiry _ | .deferredReclaim _ => { freeze := true }
  | .openAccount _ | .setRights _ | .suspend _ | .resume _ | .clearBins _ | .closeInterval _ | .releaseRecords _
  | .setWatch _ | .teardown _ => { accounts := true }
  | .freeze _ | .unfreeze _ => { freeze := true }
  | .loadDraft _ | .propose _ | .withdraw _ => { joint := true }
  | .concur _ => { joint := true, assemblers := true, results := true }
  | .setTime _ => { time := true, accounts := true }
  | .selectBand _ => { time := true }
  | .draftWrite _ _ => { joint := true }
  | .freezeRead _ _ => { freeze := true }
  | .portReset _ => { joint := true, freeze := true }
  | .supplyFalling => { retention := true, accounts := true, assemblers := true }
  | .retentionLoss => { retention := true }
  | .powerOnReset =>
    { receivers := true, assemblers := true, results := true, posting := true, time := true, accounts := true,
      joint := true, freeze := true, retention := true }
  | .setPort _ | .requestRecord _ _ | .statusRead _ _ | .pendingSetRead _ _ | .faultRecordRead _ _ | .accountRead _ _
  | .binsRead _ _ | .ringWalk _ _ | .badFraming _ _ | .wrongDirectionAccess _ _ | .absentItemAccess _ _
  | .portResetDeassertion _ => {}

/-- The outcome is a next state that agrees with `s` outside the footprint. -/
def AnswersWithin (f : Footprint) (s : State) (o : Host.Outcome State Fault Refusal) : Prop :=
  ∃ t, o = .next t ∧ Leaves f s t

theorem AnswersWithin.next {f : Footprint} {s t : State} (h : Leaves f s t) : AnswersWithin f s (.next t) := ⟨t, rfl, h⟩

theorem AnswersWithin.same (f : Footprint) (s : State) : AnswersWithin f s (.next s) := .next (.refl f s)

/-! #### The measurement path -/

theorem execFrameArrival_within (i : Incomer) (bytes : Vector Byte 15) (s : State) :
    AnswersWithin (footprintOf (.frameArrival i bytes)) s (execFrameArrival i bytes s) := by
  unfold execFrameArrival
  split
  · exact .same _ s
  · split
    · exact .next ((s.setReceiver_leaves rfl i _).trans ((State.deliver_framingPath _ i _).leaves rfl rfl rfl))
    · exact .next (s.setReceiver_leaves rfl i _)

theorem execSilenceExpiry_within (i : Incomer) (s : State) :
    AnswersWithin (footprintOf (.silenceExpiry i)) s (execSilenceExpiry i s) := by
  unfold execSilenceExpiry
  split
  · exact .next (s.setReceiver_leaves rfl i _)
  · exact .same _ s

theorem execTimeLimitClose_within (i : Incomer) (s : State) :
    AnswersWithin (footprintOf (.timeLimitClose i)) s (execTimeLimitClose i s) := by
  unfold execTimeLimitClose
  split
  · exact .next ((s.closeWindow_framingPath i _ _ _).leaves rfl rfl rfl)
  · exact .same _ s

theorem execTransformBegin_within (s : State) :
    AnswersWithin (footprintOf .transformBegin) s (execTransformBegin s) := by
  unfold execTransformBegin
  split
  · exact .next (s.takeEntry_resultPath.leaves rfl rfl)
  · exact .same _ s

theorem execInvalidEntryLeave_within (s : State) :
    AnswersWithin (footprintOf .invalidEntryLeave) s (execInvalidEntryLeave s) := by
  unfold execInvalidEntryLeave
  split
  · exact .next ((s.takeEntry_resultPath.trans (State.settleEngine_resultPath _)).leaves rfl rfl)
  · exact .same _ s

theorem State.freeBank_framingPath (s : State) (e : WaitEntry) : FramingPath s (s.freeBank e) := by
  unfold State.freeBank
  split <;> rfl

theorem State.complete_framingPath (s : State) (f : Flight) : FramingPath s (s.complete f) := by
  unfold State.complete
  generalize s.validResult f = r
  have handed (c : Calc) : FramingPath s ((s.setCalc f.entry.incomer c).handOff r) := rfl
  have idle (t : State) (e : Engine) : FramingPath t { t with engine := e } := rfl
  exact ((handed _).trans (State.freeBank_framingPath _ _)).trans (idle _ _)

theorem execTransformCompletion_within (s : State) :
    AnswersWithin (footprintOf .transformCompletion) s (execTransformCompletion s) := by
  unfold execTransformCompletion
  split
  · exact .same _ s
  · exact .next (((s.complete_framingPath _).trans (State.settleEngine_resultPath _).framingPath).leaves rfl rfl rfl)

theorem State.setPosting_leaves (s : State) {f : Footprint} (hf : f.posting = true) (u : Posting) :
    Leaves f s { s with posting := u } := by constructor <;> simp [hf]

theorem State.postTo_leaves (s : State) {f : Footprint} (hf : f.accounts = true) (n : Nat) (r : ResultRecord) :
    Leaves f s (s.postTo n r) := by
  unfold State.postTo
  split
  · exact .refl f s
  · exact s.setEvaluated_leaves hf n _

theorem execPosting_within (s : State) : AnswersWithin (footprintOf .posting) s (execPosting s) := by
  unfold execPosting
  split
  · exact .same _ s
  · exact .next ((s.postTo_leaves rfl _ _).trans (State.setPosting_leaves _ rfl _))

/-! #### Time and closes -/

theorem execSecondPulse_within (s : State) : AnswersWithin (footprintOf .secondPulse) s (execSecondPulse s) := by
  unfold execSecondPulse
  split
  · exact .same _ s
  · exact .next (s.setTime_leaves rfl _)
  · dsimp only
    split
    · exact .next ((s.setTime_leaves rfl _).trans (State.secondTick_leaves _ rfl rfl rfl rfl))
    · exact .next (s.setTime_leaves rfl _)

theorem execHoldoverEntry_within (s : State) :
    AnswersWithin (footprintOf .holdoverEntry) s (execHoldoverEntry s) := by
  unfold execHoldoverEntry
  split
  · exact .next (((s.setTime_leaves rfl _).trans (State.mapAccounts_leaves _ rfl _)).trans
      (State.secondTick_leaves _ rfl rfl rfl rfl))
  · exact .same _ s

theorem execFreeRunTick_within (s : State) : AnswersWithin (footprintOf .freeRunTick) s (execFreeRunTick s) := by
  unfold execFreeRunTick
  split
  · exact .next (s.secondTick_leaves rfl rfl rfl rfl)
  · exact .same _ s

theorem execTimerCloseBegin_within (n : Fin 24) (s : State) :
    AnswersWithin (footprintOf (.timerCloseBegin n)) s (execTimerCloseBegin n s) := by
  unfold execTimerCloseBegin
  split
  · exact .same _ s
  · split
    · exact .next (s.setEvaluated_leaves rfl n _)
    · exact .same _ s

theorem execRecordWritten_within (n : Fin 24) (s : State) :
    AnswersWithin (footprintOf (.recordWritten n)) s (execRecordWritten n s) := by
  unfold execRecordWritten
  split
  · exact .same _ s
  · split
    · exact .next (((s.raiseRecords_portsOnly n _).leaves _).trans (State.setEvaluated_leaves _ rfl n _))
    · exact .same _ s

theorem execPendingCloseBegin_within (n : Fin 24) (s : State) :
    AnswersWithin (footprintOf (.pendingCloseBegin n)) s (execPendingCloseBegin n s) := by
  unfold execPendingCloseBegin
  split
  · exact .same _ s
  · split
    · exact .next (s.setEvaluated_leaves rfl n _)
    · exact .same _ s

theorem execDeferredCloseBegin_within (n : Fin 24) (s : State) :
    AnswersWithin (footprintOf (.deferredCloseBegin n)) s (execDeferredCloseBegin n s) := by
  unfold execDeferredCloseBegin
  split
  · exact .same _ s
  · split
    · exact .next (s.setEvaluated_leaves rfl n _)
    · exact .same _ s

/-! #### The joint table unit -/

theorem State.lapseNow_leaves (s : State) {f : Footprint} (hf : f.joint = true) : Leaves f s s.lapseNow :=
  (s.setJoint_leaves hf _).trans (PortsOnly.leaves (s := s.endProposal) (t := s.lapseNow) rfl f)

theorem execLapse_within (s : State) : AnswersWithin (footprintOf .lapse) s (execLapse s) := by
  unfold execLapse
  split
  · split
    · exact .next (s.lapseNow_leaves rfl)
    · exact .same _ s
  · exact .same _ s

theorem execLoadDraft_within (p : Port) (s : State) :
    AnswersWithin (footprintOf (.loadDraft p)) s (execLoadDraft p s) := by
  refine .next (s.take_leaves _ p 12 _ fun r => ?_)
  split
  · exact .refl _ s
  · exact s.setJoint_leaves rfl _

theorem execPropose_within (p : Port) (s : State) :
    AnswersWithin (footprintOf (.propose p)) s (execPropose p s) := by
  refine .next (s.take_leaves _ p 13 _ fun r => ?_)
  split
  · exact .refl _ s
  · split
    · exact .refl _ s
    · split
      · exact s.setJoint_leaves rfl _
      · exact .refl _ s

theorem execConcur_within (p : Port) (s : State) :
    AnswersWithin (footprintOf (.concur p)) s (execConcur p s) := by
  refine .next (s.take_leaves _ p 14 _ fun r => ?_)
  split
  · exact .refl _ s
  · split
    · exact .refl _ s
    · split
      · exact .refl _ s
      · split
        · exact s.commit_leaves rfl rfl rfl _
        · exact .refl _ s

theorem execWithdraw_within (p : Port) (s : State) :
    AnswersWithin (footprintOf (.withdraw p)) s (execWithdraw p s) := by
  refine .next (s.take_leaves _ p 15 _ fun r => ?_)
  split
  · exact .refl _ s
  · split
    · exact .refl _ s
    · split
      · exact s.setJoint_leaves rfl _
      · exact .refl _ s

/-! #### Requests -/

theorem execOpenAccount_within (p : Port) (s : State) :
    AnswersWithin (footprintOf (.openAccount p)) s (execOpenAccount p s) := by
  refine .next (s.take_leaves _ p 1 _ fun r => ?_)
  dsimp only
  split
  · exact .refl _ s
  · split
    · exact .refl _ s
    · split
      · exact .refl _ s
      · split
        · exact .refl _ s
        · exact s.setAccount_leaves rfl _ _

theorem execSetRights_within (p : Port) (s : State) :
    AnswersWithin (footprintOf (.setRights p)) s (execSetRights p s) := by
  refine .next (s.takeOnAccount_leaves _ p 2 _ _ fun r a _ => ?_)
  split
  · exact (s.setAccount_leaves rfl _ _).trans ((State.dropUnqualified_portsOnly _ _ _).leaves _)
  · exact .refl _ s

theorem execSetWatch_within (p : Port) (s : State) :
    AnswersWithin (footprintOf (.setWatch p)) s (execSetWatch p s) := by
  refine .next (s.takeOnAccount_leaves _ p 8 _ _ fun r a _ => ?_)
  dsimp only
  split
  · exact (s.setAccount_leaves rfl _ _).trans ((State.dropPendingAll_portsOnly _ _).leaves _)
  · exact .refl _ s

theorem execTeardown_within (p : Port) (s : State) :
    AnswersWithin (footprintOf (.teardown p)) s (execTeardown p s) := by
  refine .next (s.takeOnAccount_leaves _ p 9 _ _ fun r a _ => ?_)
  split
  · exact .refl _ s
  · split
    · exact .refl _ s
    · exact (s.setAccount_leaves rfl _ _).trans ((State.dropPendingAll_portsOnly _ _).leaves _)

theorem execFreeze_within (p : Port) (s : State) :
    AnswersWithin (footprintOf (.freeze p)) s (execFreeze p s) := by
  refine .next (s.takeOnAccount_leaves _ p 10 _ _ fun r a _ => ?_)
  split
  · exact .refl _ s
  · split
    · exact .refl _ s
    · split
      · exact (s.grant_freezeAndPorts _ _ _).leaves rfl
      · exact (s.setFreeze_freezeAndPorts _).leaves rfl

theorem execSetTime_within (p : Port) (s : State) :
    AnswersWithin (footprintOf (.setTime p)) s (execSetTime p s) := by
  refine .next (s.take_leaves _ p 16 _ fun r => ?_)
  split
  · exact (s.setTime_leaves rfl _).trans (State.mapAccounts_leaves _ rfl _)
  · exact .refl _ s

theorem execSelectBand_within (p : Port) (s : State) :
    AnswersWithin (footprintOf (.selectBand p)) s (execSelectBand p s) := by
  refine .next (s.take_leaves _ p 17 _ fun r => ?_)
  split
  · exact .refl _ s
  · split
    · exact s.setTime_leaves rfl _
    · exact .refl _ s

theorem execSetPort_within (p : Port) (s : State) :
    AnswersWithin (footprintOf (.setPort p)) s (execSetPort p s) := by
  refine .next (s.take_leaves _ p 18 _ fun r => ?_)
  dsimp only
  split
  · split
    · dsimp only
      exact s.updPort_leaves _ p _
    · exact .refl _ s
  · exact .refl _ s

/-! #### Transactions -/

theorem State.judgeRecord_portsOnly (s : State) (p : Port) (t : Transaction) : PortsOnly s (s.judgeRecord p t) := by
  unfold State.judgeRecord
  split
  · rfl
  · split
    · rfl
    · split <;> rfl

theorem State.requestWord_portsOnly (s : State) (p : Port) (t : Transaction) (w : Word) :
    PortsOnly s (s.requestWord p t w) := by
  unfold State.requestWord
  split
  · split <;> rfl
  · rfl

theorem State.openWord_portsOnly (s : State) (p : Port) (t : Transaction) (w : Word) :
    PortsOnly s (s.openWord p t w) := by
  unfold State.openWord
  split
  · rfl
  · split
    · exact (s.readItem_portsOnly p t).trans rfl
    · exact s.readItem_portsOnly p t

theorem State.openHead_leaves (s : State) (f : Footprint) (p : Port) (r : Readout) (w : Word) :
    Leaves f s (s.openHead p r w) := by
  refine (s.drawn_leaves f).trans (PortsOnly.leaves ?_ f)
  unfold State.openHead
  dsimp only
  split <;> rfl

theorem State.accountHead_leaves (s : State) (f : Footprint) (p : Port) (r : Readout) (w : Word) :
    Leaves f s (s.accountHead p r w) := by
  unfold State.accountHead
  dsimp only
  split
  · exact (s.failHead_portsOnly p r _ w _).leaves f
  · split
    · exact (s.drawn_leaves f).trans ((State.enter_portsOnly _ p _).leaves f)
    · exact (s.failHead_portsOnly p r _ w _).leaves f

theorem State.freezeHead_portsOnly (s : State) (p : Port) (r : Readout) (w : Word) :
    PortsOnly s (s.freezeHead p r w) := by
  unfold State.freezeHead
  split <;> rfl

theorem State.writeDraft_leaves (s : State) {f : Footprint} (hf : f.joint = true) (p : Port) (k : Nat) (w : Word) :
    Leaves f s (s.writeDraft p k w) := by
  unfold State.writeDraft
  split
  · exact s.setJoint_leaves hf _
  · exact .refl f s

theorem State.draftWord_leaves (s : State) {f : Footprint} (hf : f.joint = true) (p : Port) (t : Transaction)
    (w : Word) : Leaves f s (s.draftWord p t w) := by
  unfold State.draftWord
  split
  · exact (s.shift_portsOnly p _ _).leaves f
  · split
    · exact (s.writeDraft_leaves hf p _ w).trans ((State.shiftZero_portsOnly _ p t).leaves f)
    · exact (s.shiftPast_portsOnly p t).leaves f

/-- Every transaction command answers within its footprint. -/
theorem exec_transaction_within (c : Instr) (s : State) (h : c.transaction.isSome = true) :
    AnswersWithin (footprintOf c) s (exec c s) := by
  cases c
  case requestRecord p e =>
    exact .next (s.readOnly_leaves _ p _ e _ _ _ (fun r w => (s.enter_portsOnly p _).leaves _)
      (s.requestWord_portsOnly p) fun t => (s.close_portsOnly p).trans (State.judgeRecord_portsOnly _ p t))
  case draftWrite p e =>
    exact .next (s.transact_leaves _ p _ e _ _ _ (fun r w => (s.enter_portsOnly p _).leaves _)
      (s.draftWord_leaves rfl p) fun t => (s.close_portsOnly p).leaves _)
  case statusRead p e =>
    exact .next (s.readOnly_leaves _ p _ e _ _ _ (s.openHead_leaves _ p) (s.openWord_portsOnly p)
      fun t => s.close_portsOnly p)
  case pendingSetRead p e =>
    exact .next (s.readOnly_leaves _ p _ e _ _ _ (fun r w => PortsOnly.leaves (s := s) (t := s.pendingHead p r w) rfl _)
      (fun t _ => s.readItem_portsOnly p t) fun t => rfl)
  case faultRecordRead p e =>
    exact .next (s.readOnly_leaves _ p _ e _ _ _
      (fun r w => (s.drawn_leaves _).trans (PortsOnly.leaves (s := s.drawn) (t := s.faultHead p r w) rfl _))
      (fun t _ => s.readItem_portsOnly p t) fun t => rfl)
  case accountRead p e =>
    exact .next (s.readOnly_leaves _ p _ e _ _ _ (s.accountHead_leaves _ p) (fun t _ => s.readItem_portsOnly p t)
      fun t => s.close_portsOnly p)
  case binsRead p e =>
    exact .next (s.readOnly_leaves _ p _ e _ _ _ (fun r w => (s.entryHead_portsOnly p _ r w).leaves _)
      (s.binsWord_portsOnly p) fun t => s.close_portsOnly p)
  case ringWalk p e =>
    exact .next (s.readOnly_leaves _ p _ e _ _ _ (fun r w => (s.entryHead_portsOnly p _ r w).leaves _)
      (s.walkWord_portsOnly p) fun t => s.close_portsOnly p)
  case freezeRead p e =>
    exact .next (s.transact_leaves _ p _ e _ _ _ (fun r w => (s.freezeHead_portsOnly p r w).leaves _)
      (fun t _ => (s.freezeWord_portsOnly p t).leaves _)
      fun t => ((s.close_portsOnly p).leaves _).trans ((State.endFreezeRead_freezeAndPorts _ p).leaves rfl))
  case badFraming p e =>
    exact .next (s.readOnly_leaves _ p _ e _ _ _ (fun r w => (s.failHead_portsOnly p r _ w _).leaves _)
      (fun t _ => s.shift_portsOnly p _ _) fun t => s.close_portsOnly p)
  case wrongDirectionAccess p e =>
    exact .next (s.readOnly_leaves _ p _ e _ _ _ (fun r w => (s.failHead_portsOnly p r _ w _).leaves _)
      (fun t _ => s.shiftZero_portsOnly p t) fun t => s.close_portsOnly p)
  case absentItemAccess p e =>
    exact .next (s.readOnly_leaves _ p _ e _ _ _ (fun r w => (s.failHead_portsOnly p r _ w _).leaves _)
      (fun t _ => s.shiftZero_portsOnly p t) fun t => s.close_portsOnly p)
  all_goals exact nomatch h

/-! #### Resets and starts -/

theorem State.withdrawOwn_leaves (s : State) {f : Footprint} (hf : f.joint = true) (p : Port) :
    Leaves f s (s.withdrawOwn p) := by
  unfold State.withdrawOwn
  split
  · split
    · exact s.setJoint_leaves hf _
    · exact .refl f s
  · exact .refl f s

theorem execPortReset_within (p : Port) (s : State) :
    AnswersWithin (footprintOf (.portReset p)) s (execPortReset p s) :=
  .next ((((s.giveUp_freezeAndPorts p).leaves rfl).trans (State.withdrawOwn_leaves _ rfl p)).trans
    ((State.setJoint_leaves _ rfl _).trans (State.updPort_leaves _ _ p _)))

theorem execSupplyFalling_within (s : State) :
    AnswersWithin (footprintOf .supplyFalling) s (execSupplyFalling s) := by
  unfold execSupplyFalling
  split
  · exact .same _ s
  · refine .next ?_
    constructor <;> simp [footprintOf]

theorem State.start_leaves (s : State) (cold : Bool) (accounts : Vector (Option Account) 24) (t : Table) (epoch : Count)
    (serial : Word) (second : Count) (band : BitVec 3) :
    Leaves (footprintOf .powerOnReset) s (s.start cold accounts t epoch serial second band) := by
  constructor <;> simp [footprintOf, State.start]

theorem execPowerOnReset_within (s : State) :
    AnswersWithin (footprintOf .powerOnReset) s (execPowerOnReset s) := by
  unfold execPowerOnReset
  split <;> exact .next (s.start_leaves _ _ _ _ _ _ _)

/-- Every command answers a next state, and changes nothing outside its footprint. -/
theorem exec_within (c : Instr) (s : State) : AnswersWithin (footprintOf c) s (exec c s) := by
  cases c
  case frameArrival i bytes => exact execFrameArrival_within i bytes s
  case silenceExpiry i => exact execSilenceExpiry_within i s
  case timeLimitClose i => exact execTimeLimitClose_within i s
  case transformBegin => exact execTransformBegin_within s
  case invalidEntryLeave => exact execInvalidEntryLeave_within s
  case transformCompletion => exact execTransformCompletion_within s
  case postingTake => exact .next (s.setPosting_leaves rfl _)
  case posting => exact execPosting_within s
  case secondPulse => exact execSecondPulse_within s
  case holdoverEntry => exact execHoldoverEntry_within s
  case freeRunTick => exact execFreeRunTick_within s
  case timerCloseBegin n => exact execTimerCloseBegin_within n s
  case recordWritten n => exact execRecordWritten_within n s
  case pendingCloseBegin n => exact execPendingCloseBegin_within n s
  case deferredCloseBegin n => exact execDeferredCloseBegin_within n s
  case lapse => exact execLapse_within s
  case slotTimerExpiry b => exact .next ((s.expireSlot_freezeAndPorts b).leaves rfl)
  case deferredReclaim b => exact .next ((s.settleReclaim_freezeAndPorts b).leaves rfl)
  case openAccount p => exact execOpenAccount_within p s
  case setRights p => exact execSetRights_within p s
  case suspend p => exact .next (s.takeOnAccount_leaves _ p 3 _ _ fun r a _ => s.setAccount_leaves rfl _ _)
  case resume p => exact .next (s.takeOnAccount_leaves _ p 4 _ _ fun r a _ => s.setAccount_leaves rfl _ _)
  case clearBins p => exact .next (s.takeOnAccount_leaves _ p 5 _ _ fun r a _ => s.setEvaluated_leaves rfl _ _)
  case closeInterval p => exact .next (s.takeOnAccount_leaves _ p 6 _ _ fun r a _ => s.setEvaluated_leaves rfl _ _)
  case releaseRecords p => exact .next (s.takeOnAccount_leaves _ p 7 _ _ fun r a _ => s.setEvaluated_leaves rfl _ _)
  case setWatch p => exact execSetWatch_within p s
  case teardown p => exact execTeardown_within p s
  case freeze p => exact execFreeze_within p s
  case unfreeze p => exact .next (s.take_leaves _ p 11 _ fun r => (s.giveUp_freezeAndPorts p).leaves rfl)
  case loadDraft p => exact execLoadDraft_within p s
  case propose p => exact execPropose_within p s
  case concur p => exact execConcur_within p s
  case withdraw p => exact execWithdraw_within p s
  case setTime p => exact execSetTime_within p s
  case selectBand p => exact execSelectBand_within p s
  case setPort p => exact execSetPort_within p s
  case portReset p => exact execPortReset_within p s
  case supplyFalling => exact execSupplyFalling_within s
  case retentionLoss => exact .next (by constructor <;> simp [footprintOf])
  case powerOnReset => exact execPowerOnReset_within s
  case portResetDeassertion p => exact .next (s.updPort_leaves _ p _)
  all_goals exact exec_transaction_within _ s rfl

theorem Leaves.of_exec {c : Instr} {s t : State} (h : exec c s = .next t) : Leaves (footprintOf c) s t := by
  obtain ⟨u, hu, l⟩ := exec_within c s
  cases hu.symm.trans h
  exact l

/-- Settles O3. -/
theorem everyCommandAnswersNextState : Obligations.EveryCommandAnswersNextState := by
  intro c s
  obtain ⟨t, ht, l⟩ := exec_within c s
  exact ⟨t, ht, l.pending⟩

/-! ### One step -/

/-- Settles O1: a queue with a command at its front is the first case of `step`. -/
theorem stepRunsFrontCommand : Obligations.StepRunsFrontCommand := by
  intro c rest s h
  simp [step, h]

theorem step_idle_due {s : State} {c : Instr} (h : s.pending = []) (hd : s.due = some c) : step s = exec c s := by
  simp [step, h, hd]

theorem step_idle_tick {s : State} (h : s.pending = []) (hd : s.due = none) : step s = .next s.tick := by
  simp [step, h, hd]

/-- Settles O2: with the queue empty `step` is the due command or the tick, and the tick changes the clock, the silence
counters and the free-run counter. -/
theorem idleStepTakesDueEventOrTick : Obligations.IdleStepTakesDueEventOrTick := by
  intro s h
  refine ⟨fun c hd => step_idle_due h hd, fun hd => ⟨s.tick, step_idle_tick h hd, rfl, fun i => ?_, rfl, rfl⟩⟩
  simp only [State.tick, State.receiver, PerIncomer.get_map]
  rfl

/-- A law that does not speak of the queue holds after every step when the commands and the tick keep it. -/
theorem step_keeps {P : State → Prop} (queue : ∀ s q, P s → P { s with pending := q }) (tick : ∀ s, P s → P s.tick)
    (command : ∀ c s t, P s → exec c s = .next t → P t) (s t : State) (hs : P s) (h : step s = .next t) : P t := by
  cases hq : s.pending with
  | cons c rest => exact command c _ t (queue s rest hs) (by simpa [step, hq] using h)
  | nil =>
    cases hd : s.due with
    | some c => exact command c s t hs ((step_idle_due hq hd).symm.trans h)
    | none =>
      cases (step_idle_tick hq hd).symm.trans h
      exact tick s hs

end Sys2Proof.Machine

/-! The laws of the link receivers (R3, R5 to R8) hold after every step. -/

namespace Sys2Proof.Machine

/-! ### A receiver after each event -/

theorem Receiver.initial_law : Receiver.initial.Law := by
  simp [Receiver.Law, Receiver.initial, Config.badRunLimit]

/-- The silence expiry leaves DOWN with nothing held (R3). -/
theorem Receiver.expire_law (r : Receiver) : r.expire.Law := by
  simp [Receiver.Law, Receiver.expire, Config.badRunLimit]

theorem Receiver.tick_law {r : Receiver} (h : r.Law) : r.tick.Law := by
  obtain ⟨hsilence, hrun, hrun0, hdown, hframes⟩ := h
  unfold Receiver.tick
  split
  · exact ⟨hsilence, hrun, hrun0, hdown, hframes⟩
  · rename_i hup
    exact ⟨(Nat.sub_le _ _).trans hsilence, hrun, hrun0, fun e => absurd e hup, hframes⟩

/-- A frame with bad CRC changes the flaw mark of the open cycle alone (R1). -/
theorem Receiver.flaw_law {r : Receiver} (h : r.Law) : r.flaw.Law := by
  obtain ⟨hsilence, hrun, hrun0, hdown, hframes⟩ := h
  refine ⟨hsilence, hrun, hrun0, fun e => ?_, fun c hc => ?_⟩
  · obtain ⟨h0, hx, hc⟩ := hdown e
    exact ⟨h0, hx, by simp [Receiver.flaw, hc]⟩
  · obtain ⟨c', hc', rfl⟩ := Option.map_eq_some_iff.mp hc
    exact hframes c' hc'

theorem Receiver.loaded_state_ne_down (r : Receiver) (f : Frame) : (r.loaded f).state ≠ .down := by
  unfold Receiver.loaded
  dsimp only
  split
  · nofun
  · assumption

/-- A receiver that is not DOWN keeps its laws when its silence counter and its tally do. -/
theorem Receiver.law_of_up {r : Receiver} (hup : r.state ≠ .down) (hs : r.silence ≤ Config.silenceTicks)
    (hrun : r.badRun < Config.badRunLimit) (hrun0 : r.state ≠ .locked → r.badRun = 0)
    (hc : ∀ c, r.cycle = some c → c.frames ≤ Config.cycleFrames) : r.Law :=
  ⟨hs, hrun, hrun0, fun e => absurd e hup, hc⟩

theorem Receiver.loaded_law {r : Receiver} (h : r.Law) (f : Frame) : (r.loaded f).Law := by
  obtain ⟨_, hrun, hrun0, _, hframes⟩ := h
  refine law_of_up (r.loaded_state_ne_down f) le_rfl hrun (fun hl => hrun0 ?_) hframes
  intro e
  exact hl (by simp [Receiver.loaded, e])

/-- After a marker the receiver is up, its bad-cycle run is below 3, and it is 0 outside LOCKED (R8). -/
theorem Receiver.afterMarker_law {r : Receiver} (h : r.Law) (hup : r.state ≠ .down) (now : Nat) :
    (r.afterMarker now).1 ≠ .down ∧ (r.afterMarker now).2 < Config.badRunLimit
      ∧ ((r.afterMarker now).1 ≠ .locked → (r.afterMarker now).2 = 0) := by
  obtain ⟨_, hrun, hrun0, _, _⟩ := h
  unfold Receiver.afterMarker
  split
  · unfold Receiver.judged
    split
    · contradiction
    · split <;> simp [Config.badRunLimit]
    · split
      · simp [Config.badRunLimit]
      · split <;> simp_all [Config.badRunLimit]
  · exact ⟨hup, hrun, hrun0⟩

theorem Receiver.takeMarker_law {r : Receiver} (h : r.Law) (now : Nat) (f : Frame) : (r.takeMarker now f).1.Law := by
  obtain ⟨hup, hrun, hrun0⟩ := afterMarker_law (loaded_law h f) (r.loaded_state_ne_down f) now
  refine law_of_up hup le_rfl hrun hrun0 fun c hc => ?_
  cases hc
  simp [Config.cycleFrames]

theorem Receiver.takeOrdinary_law {r : Receiver} (h : r.Law) (f : Frame) : (r.takeOrdinary f).1.Law := by
  have hl := loaded_law h f
  obtain ⟨_, _, _, _, hframes⟩ := h
  obtain ⟨hs, hrun, hrun0, _, _⟩ := id hl
  have recycled (c : CycleTally) (hc : c.frames ≤ Config.cycleFrames) : { r.loaded f with cycle := some c }.Law :=
    law_of_up (r.loaded_state_ne_down f) hs hrun hrun0 fun c' e => by cases e; exact hc
  unfold Receiver.takeOrdinary
  dsimp only
  split
  · exact hl
  · split
    · exact recycled _ (by assumption)
    · rename_i c hc _
      exact recycled _ (hframes c hc)

theorem Receiver.takeFrame_law {r : Receiver} (h : r.Law) (now : Nat) (f : Frame) : (r.takeFrame now f).1.Law := by
  unfold Receiver.takeFrame
  split
  · exact takeMarker_law h now f
  · exact takeOrdinary_law h f

/-! ### The receivers of the part -/

theorem State.receiverLaw_congr {s t : State} (h : s.ReceiverLaw) (e : t.receivers = s.receivers) : t.ReceiverLaw := by
  intro i
  unfold State.receiver
  rw [e]
  exact h i

theorem State.setReceiver_receiverLaw {s : State} (h : s.ReceiverLaw) (i : Incomer) {r : Receiver} (hr : r.Law) :
    (s.setReceiver i r).ReceiverLaw := by
  intro k
  rw [State.setReceiver_receiver]
  split
  · exact hr
  · exact h k

theorem State.start_receiverLaw (s : State) (cold : Bool) (accounts : Vector (Option Account) 24) (t : Table)
    (epoch : Count) (serial : Word) (second : Count) (band : BitVec 3) :
    (s.start cold accounts t epoch serial second band).ReceiverLaw := by
  intro i
  cases i <;> exact Receiver.initial_law

theorem exec_keeps_receiverLaw (c : Instr) (s t : State) (h : s.ReceiverLaw) (e : exec c s = .next t) :
    t.ReceiverLaw := by
  have l := Leaves.of_exec e
  cases c
  case frameArrival i bytes =>
    simp only [exec, execFrameArrival] at e
    split at e
    · cases e; exact h
    · split at e
      · cases e
        refine State.receiverLaw_congr (s.setReceiver_receiverLaw h i
          (Receiver.takeFrame_law (h i) s.now (frameOf bytes))) ?_
        rw [State.deliver_framingPath]
      · cases e
        exact s.setReceiver_receiverLaw h i (Receiver.flaw_law (h i))
  case silenceExpiry i =>
    simp only [exec, execSilenceExpiry] at e
    split at e <;> cases e
    · exact s.setReceiver_receiverLaw h i (s.receiver i).expire_law
    · exact h
  case powerOnReset =>
    simp only [exec, execPowerOnReset] at e
    split at e <;> cases e <;> exact s.start_receiverLaw _ _ _ _ _ _ _
  all_goals exact State.receiverLaw_congr h (l.receivers rfl)

theorem State.tick_receiverLaw (s : State) (h : s.ReceiverLaw) : s.tick.ReceiverLaw := by
  intro i
  simp only [State.tick, State.receiver, PerIncomer.get_map]
  exact Receiver.tick_law (h i)

/-- Settles O8. -/
theorem stepKeepsReceiverLaw : Obligations.StepKeepsReceiverLaw :=
  step_keeps (P := State.ReceiverLaw) (fun _ _ h => h) State.tick_receiverLaw exec_keeps_receiverLaw

end Sys2Proof.Machine

/-! What a command can do to the joint table unit (chapter 4): only an accepted CONCUR and a cold start change the
committed table, and the ranges of R63 and R69 to R71 hold after every step. -/

namespace Sys2Proof.Machine

/-- What command `c` makes of the joint table unit at state `s`, as far as the committed table and the proposal go (R65,
R69 to R74, R76, R77, R189, R190). -/
inductive JointStep (c : Instr) (s : State) (j : Joint) : Prop
  /-- The table stands, and the proposal stands or ends. -/
  | kept (hc : j.committed = s.joint.committed) (he : j.epoch = s.joint.epoch)
      (hp : j.proposal = s.joint.proposal ∨ j.proposal = none)
  /-- The lapse timer counts a second tick and does not lapse. -/
  | counted (hc : j.committed = s.joint.committed) (he : j.epoch = s.joint.epoch) (q : Proposal)
      (hq : s.joint.proposal = some q) (hr : 1 < q.remaining)
      (hp : j.proposal = some { q with remaining := q.remaining - 1 })
  /-- An accepted PROPOSE. -/
  | proposed (hc : j.committed = s.joint.committed) (he : j.epoch = s.joint.epoch) (q : Proposal)
      (hv : q.table.valid = true) (hne : q.proposer ≠ .C) (hr : q.remaining = Config.lapseSeconds)
      (hp : j.proposal = some q)
  /-- An accepted CONCUR. -/
  | committed (p : Port) (q : Proposal) (r : Request) (hcmd : c = .concur p) (hne : p ≠ .C)
      (hq : s.joint.proposal = some q) (hpp : q.proposer ≠ p) (hr : s.inFlight p 14 r) (hs : r.word 0 = q.serial)
      (hc : j.committed = q.table) (he : j.epoch = s.joint.epoch + 1) (hp : j.proposal = none)
  /-- A cold start. -/
  | cold (hcmd : c = .powerOnReset) (hv : s.retention.valid = false) (hc : j.committed = Table.default)
      (he : j.epoch = 0) (hp : j.proposal = none)

theorem JointStep.same (c : Instr) (s : State) : JointStep c s s.joint := .kept rfl rfl (.inl rfl)

theorem JointStep.ended (c : Instr) (s : State) : JointStep c s { s.joint with proposal := none } :=
  .kept rfl rfl (.inr rfl)

/-! ### The operations -/

/-- A request leaves the joint table unit, or does to it what its act on the request in flight does. -/
theorem State.take_joint (s : State) (p : Port) (code : Nat) (act : Request → Response × State) :
    (s.take p code act).joint = s.joint
      ∨ ∃ r, s.inFlight p code r ∧ (s.take p code act).joint = (act r).2.joint := by
  obtain he | ⟨r, hr, hc, he⟩ := s.take_cases p code act <;> rw [he]
  · exact .inl rfl
  · exact .inr ⟨r, ⟨hr, hc⟩, rfl⟩

/-- A draft that is replaced leaves the table, the epoch, the serial counter and the proposal (R67). -/
theorem Joint.setDraft_eq (j : Joint) (p : Port) (d : Draft) :
    j.setDraft p d = { j with draftU := (j.setDraft p d).draftU, draftF := (j.setDraft p d).draftF } := by
  cases p <;> rfl

theorem JointStep.setDraft {c : Instr} {s : State} {j : Joint} (h : JointStep c s j) (p : Port) (d : Draft) :
    JointStep c s (j.setDraft p d) := by
  rw [Joint.setDraft_eq]
  cases h with
  | kept hc he hp => exact .kept hc he hp
  | counted hc he q hq hr hp => exact .counted hc he q hq hr hp
  | proposed hc he q hv hne hr hp => exact .proposed hc he q hv hne hr hp
  | committed p q r hcmd hne hq hpp hr hs hc he hp => exact .committed p q r hcmd hne hq hpp hr hs hc he hp
  | cold hcmd hv hc he hp => exact .cold hcmd hv hc he hp

theorem JointStep.countLapse (c : Instr) (s : State) : JointStep c s s.countLapse.joint := by
  unfold State.countLapse
  split
  · rename_i q hq
    split
    · exact .ended c s
    · exact .counted rfl rfl q hq (by omega) rfl
  · exact .same c s

/-- A second tick counts the lapse timer and touches nothing else of the unit (R71, R108). -/
theorem State.secondTick_joint (s : State) : s.secondTick.joint = s.countLapse.joint := by
  have h : s.secondTick.joint = (s.setTime s.time.advance).countLapse.joint :=
    ((State.countSlots_freezeAndPorts _).leaves (f := { freeze := true }) rfl).joint rfl
  rw [h]
  unfold State.countLapse
  rw [State.setTime_joint]
  split
  · split <;> rfl
  · rfl

theorem State.commitIncomer_joint (s : State) (i : Incomer) (was now : Bool) :
    (s.commitIncomer i was now).joint = s.joint :=
  (s.commitIncomer_leaves (f := { assemblers := true, results := true }) rfl rfl i was now).joint rfl

theorem State.commit_joint (s : State) (t : Table) : (s.commit t).joint = s.joint.commit t := by
  have h : (s.commit t).joint = (((s.setJoint (s.joint.commit t)).commitIncomer .A s.joint.committed.enabled.a
      t.enabled.a).commitIncomer .B s.joint.committed.enabled.b t.enabled.b).joint := rfl
  rw [h, State.commitIncomer_joint, State.commitIncomer_joint, State.setJoint_joint]

theorem State.withdrawOwn_jointStep (c : Instr) (s : State) (p : Port) : JointStep c s (s.withdrawOwn p).joint := by
  unfold State.withdrawOwn
  split
  · split
    · exact .ended c s
    · exact .same c s
  · exact .same c s

theorem State.withdrawOwn_congr {s t : State} (h : t.joint = s.joint) (p : Port) :
    (t.withdrawOwn p).joint = (s.withdrawOwn p).joint := by
  unfold State.withdrawOwn
  rw [h]
  split
  · split
    · simp [State.endProposal, h]
    · exact h
  · exact h

theorem State.giveUp_joint (s : State) (p : Port) : (s.giveUp p).joint = s.joint :=
  ((s.giveUp_freezeAndPorts p).leaves (f := { freeze := true }) rfl).joint rfl

theorem JointStep.draftWord (c : Instr) (s : State) (p : Port) (x : Transaction) (w : Word) :
    JointStep c s (s.draftWord p x w).joint := by
  unfold State.draftWord
  split
  · exact .same c s
  · split
    · show JointStep c s (s.writeDraft p x.pointer w).joint
      unfold State.writeDraft
      split
      · exact (JointStep.same c s).setDraft p _
      · exact .same c s
    · exact .same c s

/-! ### The commands -/

theorem exec_propose_jointStep (p : Port) (s t : State) (e : exec (.propose p) s = .next t) :
    JointStep (.propose p) s t.joint := by
  cases e
  obtain h | ⟨r, _, h⟩ := s.take_joint p 13 _ <;> rw [h]
  · exact .same _ s
  · split
    · exact .same _ s
    · rename_i d hd
      split
      · exact .same _ s
      · split
        · rename_i hv
          refine .proposed rfl rfl _ hv ?_ rfl rfl
          rintro rfl
          cases hd
        · exact .same _ s

theorem exec_concur_jointStep (p : Port) (s t : State) (e : exec (.concur p) s = .next t) :
    JointStep (.concur p) s t.joint := by
  cases e
  obtain h | ⟨r, hr, h⟩ := s.take_joint p 14 _ <;> rw [h]
  · exact .same _ s
  · split
    · exact .same _ s
    · rename_i hne
      split
      · exact .same _ s
      · rename_i q hq
        split
        · exact .same _ s
        · rename_i hpp
          split
          · rename_i hs
            dsimp only
            rw [State.commit_joint]
            exact .committed p q r rfl hne hq (Ne.symm hpp) hr hs rfl rfl rfl
          · exact .same _ s

theorem exec_withdraw_jointStep (p : Port) (s t : State) (e : exec (.withdraw p) s = .next t) :
    JointStep (.withdraw p) s t.joint := by
  cases e
  obtain h | ⟨r, _, h⟩ := s.take_joint p 15 _ <;> rw [h]
  · exact .same _ s
  · split
    · exact .same _ s
    · split
      · exact .same _ s
      · split
        · exact .ended _ s
        · exact .same _ s

theorem exec_draftWrite_jointStep (p : Port) (e : TxEvent) (s t : State) (h : exec (.draftWrite p e) s = .next t) :
    JointStep (.draftWrite p e) s t.joint := by
  cases h
  obtain ⟨_, he⟩ | he | ⟨_, _, he⟩ | ⟨x, w, _, _, _, he⟩ | ⟨x, _, _, _, he⟩ := s.transact_cases p .draft e
      (fun r w => s.enter p (Transaction.begin r .draft w true)) (s.draftWord p) (fun _ => s.close p) <;> rw [he]
  · exact .same _ s
  · exact .same _ s
  · rw [(s.between_leaves {} p .draft e _ fun r w => (s.enter_portsOnly p _).leaves {}).joint rfl]
    exact .same _ s
  · exact .draftWord _ s p x w
  · exact .same _ s

theorem exec_secondTicks_jointStep (c : Instr) (s t : State) (hc : c = .secondPulse ∨ c = .holdoverEntry ∨ c = .freeRunTick)
    (e : exec c s = .next t) : JointStep c s t.joint := by
  have ticked (u : State) (hu : u.joint = s.joint) : JointStep c s u.secondTick.joint := by
    have h : u.countLapse.joint = s.countLapse.joint := by
      unfold State.countLapse
      rw [hu]
      split
      · split
        · simp [State.lapseNow, State.endProposal, hu]
        · rfl
      · exact hu
    rw [State.secondTick_joint, h]
    exact .countLapse c s
  obtain rfl | rfl | rfl := hc
  · simp only [exec, execSecondPulse] at e
    split at e
    · cases e; exact .same _ s
    · cases e; exact .same _ s
    · split at e <;> cases e
      · exact ticked _ rfl
      · exact .same _ s
  · simp only [exec, execHoldoverEntry] at e
    split at e <;> cases e
    · exact ticked _ rfl
    · exact .same _ s
  · simp only [exec, execFreeRunTick] at e
    split at e <;> cases e
    · exact ticked _ rfl
    · exact .same _ s

theorem exec_jointStep (c : Instr) (s t : State) (e : exec c s = .next t) : JointStep c s t.joint := by
  have l := Leaves.of_exec e
  cases c
  case secondPulse => exact exec_secondTicks_jointStep _ s t (.inl rfl) e
  case holdoverEntry => exact exec_secondTicks_jointStep _ s t (.inr (.inl rfl)) e
  case freeRunTick => exact exec_secondTicks_jointStep _ s t (.inr (.inr rfl)) e
  case lapse =>
    simp only [exec, execLapse] at e
    split at e
    · split at e <;> cases e
      · exact .ended _ s
      · exact .same _ s
    · cases e; exact .same _ s
  case loadDraft p =>
    cases e
    obtain h | ⟨r, _, h⟩ := s.take_joint p 12 _ <;> rw [h]
    · exact .same _ s
    · split
      · exact .same _ s
      · exact (JointStep.same _ s).setDraft p _
  case propose p => exact exec_propose_jointStep p s t e
  case concur p => exact exec_concur_jointStep p s t e
  case withdraw p => exact exec_withdraw_jointStep p s t e
  case draftWrite p ev => exact exec_draftWrite_jointStep p ev s t e
  case portReset p =>
    cases e
    show JointStep _ s (((s.giveUp p).withdrawOwn p).joint.setDraft p _)
    rw [State.withdrawOwn_congr (s.giveUp_joint p)]
    exact (s.withdrawOwn_jointStep _ p).setDraft p _
  case powerOnReset =>
    simp only [exec, execPowerOnReset] at e
    split at e <;> cases e
    · exact .kept rfl rfl (.inr rfl)
    · rename_i hv
      exact .cold rfl (by simpa using hv) rfl rfl rfl
  all_goals
    rw [l.joint rfl]
    exact .same _ s

/-- Settles O16: of the ways a command can change the unit, the commit and the cold start alone change the table. -/
theorem onlyTwoPartyCommitChangesTheTable : Obligations.OnlyTwoPartyCommitChangesTheTable := by
  intro c s t e
  cases exec_jointStep c s t e with
  | kept hc he => exact .inl ⟨hc, he⟩
  | counted hc he => exact .inl ⟨hc, he⟩
  | proposed hc he => exact .inl ⟨hc, he⟩
  | committed p q r hcmd hne hq hpp hr hs hc he hp =>
    exact .inr (.inl ⟨p, q, r, hcmd, hne, hq, hpp, hr, hs, hc, he, hp⟩)
  | cold hcmd hv hc he => exact .inr (.inr ⟨hcmd, hv, hc, he⟩)

/-! ### The ranges -/

/-- The default table keeps to the ranges of R63 (R66). -/
theorem Table.default_valid : Table.default.valid = true := by decide +kernel

theorem exec_keeps_jointLaw (c : Instr) (s t : State) (h : s.JointLaw) (e : exec c s = .next t) : t.JointLaw := by
  obtain ⟨hvalid, hpending⟩ := h
  have none_pending {j : Joint} (hp : j.proposal = none) (q : Proposal) (hq : j.proposal = some q) : False := by
    rw [hp] at hq
    cases hq
  cases exec_jointStep c s t e with
  | kept hc he hp =>
    refine ⟨hc ▸ hvalid, fun q hq => ?_⟩
    obtain hp | hp := hp
    · exact hpending q (hp ▸ hq)
    · exact (none_pending hp q hq).elim
  | counted hc he q hq hr hp =>
    refine ⟨hc ▸ hvalid, fun q' hq' => ?_⟩
    cases hp.symm.trans hq'
    obtain ⟨hv, hne, _, hle⟩ := hpending q hq
    refine ⟨hv, hne, ?_, ?_⟩ <;> dsimp only <;> omega
  | proposed hc he q hv hne hr hp =>
    refine ⟨hc ▸ hvalid, fun q' hq' => ?_⟩
    cases hp.symm.trans hq'
    exact ⟨hv, hne, by simp [hr, Config.lapseSeconds], hr.le⟩
  | committed p q r hcmd hne hq hpp hr hs hc he hp =>
    obtain ⟨hv, _⟩ := hpending q hq
    exact ⟨hc ▸ hv, fun q' hq' => (none_pending hp q' hq').elim⟩
  | cold hcmd hv hc he hp => exact ⟨hc ▸ Table.default_valid, fun q hq => (none_pending hp q hq).elim⟩

/-- Settles O21. -/
theorem stepKeepsJointLaw : Obligations.StepKeepsJointLaw :=
  step_keeps (P := State.JointLaw) (fun _ _ h => h) (fun _ h => h) exec_keeps_jointLaw

end Sys2Proof.Machine

/-! The laws of the measurement path (1.4, R9, R10, R16, R20, R92) hold after every step. -/

namespace Sys2Proof.Machine

/-! ### Banks -/

@[simp] theorem Assembler.setBank_bank (a : Assembler) (b c : Fin 2) (k : Bank) :
    (a.setBank b k).bank c = if c = b then k else a.bank c := by
  match b, c with
  | 0, 0 => rfl
  | 0, 1 => rfl
  | 1, 0 => rfl
  | 1, 1 => rfl

@[simp] theorem Assembler.setBank_state (a : Assembler) (b : Fin 2) (k : Bank) : (a.setBank b k).state = a.state := by
  unfold Assembler.setBank
  split <;> rfl

@[simp] theorem Assembler.setBank_filling (a : Assembler) (b : Fin 2) (k : Bank) :
    (a.setBank b k).filling = a.filling := by
  unfold Assembler.setBank
  split <;> rfl

@[simp] theorem Assembler.setBank_nextWindow (a : Assembler) (b : Fin 2) (k : Bank) :
    (a.setBank b k).nextWindow = a.nextWindow := by
  unfold Assembler.setBank
  split <;> rfl

/-- What the law asks of an open window that fills the bank `k` (R9 to R11). -/
def OpenWindow.Fits (w : OpenWindow) (k : Bank) : Prop :=
  w.fill ≤ Config.bankDepth ∧ w.fill ≤ k.rows.length ∧ w.markers < Config.windowMarkers
    ∧ (w.limit = Config.limit50 ∨ w.limit = Config.limit60)

theorem Assembler.law_iff (a : Assembler) (enabled : Bool) :
    a.Law enabled ↔ (a.state = .disabled ↔ enabled = false) ∧ (∀ b, (a.bank b).rows.length ≤ Config.bankDepth)
      ∧ ∀ w, a.state = .opened w → w.Fits (a.bank a.filling) := by
  have banks : (∀ b, (a.bank b).rows.length ≤ Config.bankDepth) ↔
      a.bank0.rows.length ≤ Config.bankDepth ∧ a.bank1.rows.length ≤ Config.bankDepth := Fin.forall_fin_two
  rw [banks, and_assoc]
  rfl

theorem Table.timeLimit_cases (t : Table) : t.timeLimit = Config.limit50 ∨ t.timeLimit = Config.limit60 := by
  unfold Table.timeLimit
  split
  · exact .inr rfl
  · exact .inl rfl

theorem OpenWindow.opening_fits (start : Nat) (t : Table) (aligned : Bool) (k : Bank) :
    (OpenWindow.opening start t.timeLimit aligned).Fits k :=
  ⟨Nat.zero_le _, Nat.zero_le _, Nat.zero_lt_succ 7, t.timeLimit_cases⟩

/-! ### An assembler after each event -/

theorem Bank.put_length (k : Bank) (n : Nat) (row : Row) (h : n ≤ k.rows.length) :
    (k.put n row).rows.length = max (n + 1) k.rows.length := by
  unfold Bank.put
  dsimp only
  split
  · rw [List.length_set]
    omega
  · rw [List.length_append, List.length_singleton]
    omega

/-- A frame changes the filling bank alone, and only while the fill count is below 2048 (R9). -/
theorem Assembler.write_bank (a : Assembler) (w : OpenWindow) (row : Row) (b : Fin 2) :
    (a.write w row).bank b =
      if b = a.filling ∧ w.fill < Config.bankDepth then (a.bank a.filling).put w.fill row else a.bank b := by
  unfold Assembler.write
  split
  · rename_i h
    simp only [h, and_true]
    exact a.setBank_bank a.filling b ((a.bank a.filling).put w.fill row)
  · rename_i h
    rw [if_neg fun k => h k.2]
    rfl

@[simp] theorem Assembler.write_filling (a : Assembler) (w : OpenWindow) (row : Row) :
    (a.write w row).filling = a.filling := by
  unfold Assembler.write
  split
  · exact a.setBank_filling _ _
  · rfl

@[simp] theorem Assembler.write_nextWindow (a : Assembler) (w : OpenWindow) (row : Row) :
    (a.write w row).nextWindow = a.nextWindow := by
  unfold Assembler.write
  split
  · exact a.setBank_nextWindow _ _
  · rfl

@[simp] theorem Assembler.write_state (a : Assembler) (w : OpenWindow) (row : Row) : (a.write w row).state =
    .opened (if w.fill < Config.bankDepth then { w with fill := w.fill + 1 } else { w with good := false }) := by
  unfold Assembler.write
  split <;> rfl

/-- A frame written to a window that fits keeps the law of an enabled assembler (R9). -/
theorem Assembler.write_law {a : Assembler} {enabled : Bool} (h : a.Law enabled) (he : enabled = true) {w : OpenWindow}
    (hw : w.Fits (a.bank a.filling)) (row : Row) : (a.write w row).Law enabled := by
  rw [law_iff] at h ⊢
  obtain ⟨_, hbanks, _⟩ := h
  obtain ⟨hfill, hrows, hmarkers, hlimit⟩ := hw
  have hput := Bank.put_length (a.bank a.filling) w.fill row hrows
  refine ⟨by simp [he], fun b => ?_, fun w' hw' => ?_⟩
  · rw [write_bank]
    split
    · have := hbanks a.filling
      omega
    · exact hbanks b
  · rw [write_state] at hw'
    cases hw'
    rw [write_bank, write_filling]
    split
    · rename_i hroom
      rw [if_pos ⟨rfl, hroom⟩]
      exact ⟨hroom, by dsimp only; omega, hmarkers, hlimit⟩
    · rename_i hfull
      rw [if_neg fun k => hfull k.2]
      exact ⟨hfill, hrows, hmarkers, hlimit⟩

/-- A close opens the next window and writes nothing to a bank (R10, R14, R15). -/
theorem Assembler.afterClose_law {a : Assembler} {enabled : Bool} (h : a.Law enabled) (he : enabled = true)
    (w : OpenWindow) (cause : WindowCause) (tick : Nat) (t : Table) :
    (a.afterClose w cause tick t.timeLimit).Law enabled := by
  rw [law_iff] at h ⊢
  obtain ⟨_, hbanks, _⟩ := h
  unfold Assembler.afterClose
  dsimp only
  split
  · refine ⟨by simp [he], fun b => ?_, fun w' hw' => ?_⟩
    · refine (congrArg (·.rows.length ≤ Config.bankDepth) (Assembler.setBank_bank _ _ b _)).mpr ?_
      split
      · exact hbanks a.filling
      · exact hbanks b
    · rw [Assembler.setBank_state] at hw'
      cases hw'
      exact OpenWindow.opening_fits tick t _ _
  · refine ⟨by simp [he], hbanks, fun w' hw' => ?_⟩
    cases hw'
    exact OpenWindow.opening_fits tick t _ _

/-- The held condition of a bank is free of the law (R15, R23). -/
theorem Assembler.setHeld_law {a : Assembler} {enabled : Bool} (h : a.Law enabled) (b : Fin 2) (x : Bool) :
    (a.setBank b { a.bank b with held := x }).Law enabled := by
  have rows (c : Fin 2) : ((a.setBank b { a.bank b with held := x }).bank c).rows = (a.bank c).rows := by
    rw [setBank_bank]
    split
    · rename_i e
      rw [e]
    · rfl
  rw [law_iff] at h ⊢
  obtain ⟨hstate, hbanks, hwindow⟩ := h
  refine ⟨by rwa [setBank_state], fun c => (rows c) ▸ hbanks c, fun w hw => ?_⟩
  obtain ⟨hfill, hrows, hmarkers, hlimit⟩ := hwindow w (a.setBank_state b _ ▸ hw)
  exact ⟨hfill, by rwa [setBank_filling, rows], hmarkers, hlimit⟩

/-- With no window open the law asks for the sizes of the banks alone. -/
theorem Assembler.closed_law {a : Assembler} {was : Bool} (h : a.Law was) (now : Bool) (n : Count) :
    { a with state := if now then .awaiting else .disabled, nextWindow := n }.Law now := by
  obtain ⟨_, hbank0, hbank1, _⟩ := h
  refine ⟨by cases now <;> simp, hbank0, hbank1, fun w hw => ?_⟩
  cases now <;> cases hw

theorem Assembler.initial_law (enabled : Bool) : (Assembler.initial enabled).Law enabled := by
  refine ⟨by cases enabled <;> simp [Assembler.initial], Nat.zero_le _, Nat.zero_le _, fun w hw => ?_⟩
  cases enabled <;> cases hw

/-- The discard of an open window leaves DISABLED to the disabled (R17). -/
theorem Assembler.interrupt_law {a : Assembler} {enabled : Bool} (h : a.Law enabled) : a.interrupt.Law enabled := by
  unfold Assembler.interrupt
  split
  · rename_i w hw
    obtain ⟨hstate, hbank0, hbank1, _⟩ := h
    refine ⟨?_, hbank0, hbank1, fun w hw => nomatch hw⟩
    rw [hw] at hstate
    simpa using hstate
  · exact h

/-- An assembler whose window is open belongs to an enabled incomer. -/
theorem Assembler.enabled_of_state {a : Assembler} {enabled : Bool} (h : a.Law enabled) (hs : a.state ≠ .disabled) :
    enabled = true := by
  obtain ⟨hstate, _⟩ := h
  simpa using fun e => hs (hstate.mpr e)

/-! ### The three parts of the law -/

/-- Both assemblers keep their laws. -/
def State.AssemblersLaw (s : State) : Prop := ∀ i, (s.assembler i).Law (s.joint.committed.enabled.get i)

/-- The engine is IDLE only with an empty wait list (R20). -/
def State.EngineLaw (s : State) : Prop := s.engine.flight = none → s.waitList = []

/-- No record waits while none is in posting, and the visit position names an account (R92). -/
def Posting.Law (u : Posting) : Prop := (u.current = none → u.waiting = []) ∧ ∀ v, u.current = some v → v.position < 24

theorem State.pathLaw_iff (s : State) : s.PathLaw ↔ s.AssemblersLaw ∧ s.EngineLaw ∧ s.posting.Law := Iff.rfl

theorem State.assemblersLaw_congr {s t : State} (h : s.AssemblersLaw) (ha : t.assemblers = s.assemblers)
    (hj : t.joint.committed = s.joint.committed) : t.AssemblersLaw := by
  intro i
  unfold State.assembler
  rw [ha, hj]
  exact h i

theorem State.setAssembler_assemblersLaw {s : State} (h : s.AssemblersLaw) (i : Incomer) {a : Assembler}
    (ha : a.Law (s.joint.committed.enabled.get i)) : (s.setAssembler i a).AssemblersLaw := by
  intro k
  rw [State.setAssembler_assembler]
  split
  · rename_i e
    exact e ▸ ha
  · exact h k

/-! #### The posting unit -/

theorem Posting.takeNext_law {u : Posting} (h : ∀ v, u.current = some v → v.position < 24) : u.takeNext.Law := by
  refine ⟨u.takeNext_idle, fun v hv => ?_⟩
  unfold Posting.takeNext at hv
  split at hv
  · cases hv
    simp
  · exact h v hv

theorem Posting.arrive_law {u : Posting} (h : u.Law) (r : ResultRecord) : (u.arrive r).Law := takeNext_law h.2

theorem Visit.after_position {v v' : Visit} (h : v.after = some v') : v'.position < 24 := by
  unfold Visit.after at h
  split at h <;> cases h
  dsimp only
  omega

/-! #### The engine -/

/-- A take either begins a transform, lets an invalid entry go with its record on the way to the posting unit, or finds
nothing to take (R20 to R22, R92). -/
theorem State.takeEntry_cases (s : State) :
    (s.takeEntry = s ∧ s.EngineLaw)
      ∨ (s.takeEntry.engine.flight.isSome = true ∧ s.takeEntry.posting = s.posting)
      ∨ (s.takeEntry.engine = s.engine ∧ s.takeEntry.waitList = s.waitList.tail
          ∧ ∃ r, s.takeEntry.posting = s.posting.arrive r) := by
  unfold State.takeEntry
  split
  · rename_i e rest hf hw
    split
    · exact .inr (.inl ⟨rfl, rfl⟩)
    · exact .inr (.inr ⟨rfl, by rw [hw]; rfl, _, rfl⟩)
  · rename_i hno
    refine .inl ⟨rfl, fun hf => ?_⟩
    cases hw : s.waitList with
    | nil => rfl
    | cons e rest => exact (hno e rest hf hw).elim

theorem State.takeEntries_engineLaw (n : Nat) (s : State) (h : s.waitList.length ≤ n) :
    (State.takeEntries n s).EngineLaw := by
  induction n generalizing s with
  | zero => exact fun _ => List.length_eq_zero_iff.mp (Nat.le_zero.mp h)
  | succ n ih =>
    obtain ⟨_, hlaw⟩ | ⟨hbusy, _⟩ | ⟨_, hrest, _⟩ := s.takeEntry_cases
    · cases hw : s.engine.flight with
      | none =>
        refine ih _ ?_
        rw [State.takeEntry]
        simp [hw, hlaw hw]
      | some f =>
        rw [State.takeEntries_busy hw]
        exact hlaw
    · obtain ⟨f, hf⟩ := Option.isSome_iff_exists.mp hbusy
      rw [State.takeEntries, State.takeEntries_busy hf]
      exact fun hn => nomatch hf.symm.trans hn
    · refine ih _ ?_
      rw [hrest, List.length_tail]
      omega

theorem State.takeEntries_posting (n : Nat) (s : State) (h : s.posting.Law) :
    (State.takeEntries n s).posting.Law := by
  induction n generalizing s with
  | zero => exact h
  | succ n ih =>
    refine ih _ ?_
    obtain ⟨he, _⟩ | ⟨_, hp⟩ | ⟨_, _, r, hp⟩ := s.takeEntry_cases
    · rwa [he]
    · rwa [hp]
    · rw [hp]
      exact Posting.arrive_law h r

/-- After the engine has taken what it can, the law of the wait list stands whatever it was (R20). -/
theorem State.settleEngine_pathLaw {s : State} (ha : s.AssemblersLaw) (hp : s.posting.Law) : s.settleEngine.PathLaw := by
  refine (State.pathLaw_iff _).mpr ⟨?_, s.takeEntries_engineLaw _ le_rfl, s.takeEntries_posting _ hp⟩
  have l := s.settleEngine_resultPath.leaves (f := { results := true, posting := true }) rfl rfl
  exact State.assemblersLaw_congr ha (l.assemblers rfl) (by rw [l.joint rfl])

/-- With the law no entry stands at the head of the wait list of an IDLE engine. -/
theorem State.headStands_eq_false {s : State} (h : s.EngineLaw) (valid : Bool) : s.headStands valid = false := by
  unfold State.headStands
  cases hf : s.engine.flight with
  | none => simp [h hf]
  | some f => simp

/-! ### The operations -/

theorem State.closeWindow_pathLaw {s : State} (h : s.PathLaw) {i : Incomer} {w : OpenWindow}
    (hw : (s.assembler i).state = .opened w) (v : OpenWindow) (cause : WindowCause) (tick : Nat) :
    (s.closeWindow i v cause tick).PathLaw := by
  obtain ⟨ha, _, hp⟩ := s.pathLaw_iff.mp h
  have he := Assembler.enabled_of_state (ha i) (by simp [hw])
  exact State.settleEngine_pathLaw (s := { s.setAssembler i _ with waitList := _ })
    (s.setAssembler_assemblersLaw ha i (Assembler.afterClose_law (ha i) he v cause tick _)) hp

theorem State.setAssembler_pathLaw {s : State} (h : s.PathLaw) (i : Incomer) {a : Assembler}
    (ha : a.Law (s.joint.committed.enabled.get i)) : (s.setAssembler i a).PathLaw := by
  obtain ⟨hs, he, hp⟩ := s.pathLaw_iff.mp h
  exact (State.pathLaw_iff _).mpr ⟨s.setAssembler_assemblersLaw hs i ha, he, hp⟩

theorem State.takeOpeningMarker_pathLaw {s : State} (h : s.PathLaw) (i : Incomer) (row : Row) :
    (s.takeOpeningMarker i row).PathLaw := by
  unfold State.takeOpeningMarker
  split
  · rename_i w hw
    obtain ⟨ha, _⟩ := id h
    obtain ⟨_, _, hfits⟩ := ((s.assembler i).law_iff _).mp (ha i)
    exact s.setAssembler_pathLaw h i (Assembler.write_law (w := { w with aligned := true, good := true }) (ha i)
      (Assembler.enabled_of_state (ha i) (by simp [hw])) (hfits w hw) row)
  · exact h

theorem State.deliver_pathLaw {s : State} (h : s.PathLaw) (i : Incomer) (d : Delivery) : (s.deliver i d).PathLaw := by
  obtain ⟨ha, _⟩ := id h
  obtain ⟨_, _, hfits⟩ := ((s.assembler i).law_iff _).mp (ha i)
  unfold State.deliver
  dsimp only
  split
  · rename_i row w hw
    exact s.setAssembler_pathLaw h i (Assembler.write_law (ha i)
      (Assembler.enabled_of_state (ha i) (by simp [hw])) (hfits w hw) row)
  · rename_i v row hw
    exact s.setAssembler_pathLaw h i (Assembler.write_law (ha i)
      (Assembler.enabled_of_state (ha i) (by simp [hw])) (OpenWindow.opening_fits _ _ _ _) row)
  · rename_i v row w hw
    obtain ⟨hfill, hrows, _, hlimit⟩ := hfits w hw
    split
    · exact s.takeOpeningMarker_pathLaw h i row
    · split
      · exact State.takeOpeningMarker_pathLaw (s.closeWindow_pathLaw h hw _ _ _) i row
      · rename_i hcount
        split
        · exact State.takeOpeningMarker_pathLaw (s.closeWindow_pathLaw h hw _ _ _) i row
        · exact s.setAssembler_pathLaw h i (Assembler.write_law (w := w.count v) (ha i)
            (Assembler.enabled_of_state (ha i) (by simp [hw])) ⟨hfill, hrows, Nat.lt_of_not_le hcount, hlimit⟩ row)
  · exact h

theorem State.freeBank_assemblersLaw {s : State} (h : s.AssemblersLaw) (e : WaitEntry) : (s.freeBank e).AssemblersLaw := by
  unfold State.freeBank
  split
  · exact s.setAssembler_assemblersLaw h _ (Assembler.setHeld_law (h _) _ false)
  · exact h

theorem State.freeBank_posting (s : State) (e : WaitEntry) : (s.freeBank e).posting = s.posting := by
  unfold State.freeBank
  split <;> rfl

theorem State.handOff_assemblersLaw {s : State} (h : s.AssemblersLaw) (r : ResultRecord) :
    (s.handOff r).AssemblersLaw := by
  have l := (s.handOff_resultPath r).leaves (f := { results := true, posting := true }) rfl rfl
  exact State.assemblersLaw_congr h (l.assemblers rfl) (by rw [l.joint rfl])

theorem State.handOff_posting (s : State) (r : ResultRecord) : (s.handOff r).posting = s.posting.arrive r := rfl

theorem State.setEngine_assemblersLaw {s : State} (h : s.AssemblersLaw) (x : Engine) :
    { s with engine := x }.AssemblersLaw := h

theorem State.complete_settled_pathLaw {s : State} (h : s.PathLaw) (f : Flight) : (s.complete f).settleEngine.PathLaw := by
  obtain ⟨ha, _, hp⟩ := s.pathLaw_iff.mp h
  have handed (c : Calc) (r : ResultRecord) (x : Engine) :
      { ((s.setCalc f.entry.incomer c).handOff r).freeBank f.entry with engine := x }.settleEngine.PathLaw := by
    have hposting : (((s.setCalc f.entry.incomer c).handOff r).freeBank f.entry).posting = s.posting.arrive r := by
      rw [State.freeBank_posting, State.handOff_posting, State.setCalc_posting]
    refine State.settleEngine_pathLaw (State.setEngine_assemblersLaw (State.freeBank_assemblersLaw
      (State.handOff_assemblersLaw ?_ r) f.entry) x) ?_
    · exact State.assemblersLaw_congr ha rfl rfl
    · exact hposting ▸ Posting.arrive_law hp r
  exact handed _ _ _

/-! #### The commit (R16, R74) -/

theorem State.freeBanks_assembler (i k : Incomer) (hk : k ≠ i) (es : List WaitEntry) (he : ∀ e ∈ es, e.incomer = i)
    (s : State) : (es.foldl State.freeBank s).assembler k = s.assembler k := by
  induction es generalizing s with
  | nil => rfl
  | cons e es ih =>
    rw [List.foldl_cons, ih (fun e h => he e (List.mem_cons_of_mem _ h))]
    unfold State.freeBank
    split
    · rw [State.setAssembler_assembler, if_neg]
      rw [he e List.mem_cons_self]
      exact hk
    · rfl

theorem State.freeBanks_law (i : Incomer) (enabled : Bool) (es : List WaitEntry) (s : State)
    (h : (s.assembler i).Law enabled) : ((es.foldl State.freeBank s).assembler i).Law enabled := by
  induction es generalizing s with
  | nil => exact h
  | cons e es ih =>
    refine ih _ ?_
    unfold State.freeBank
    split
    · rw [State.setAssembler_assembler]
      split
      · rename_i hi
        exact Assembler.setHeld_law (hi ▸ h) _ false
      · exact h
    · exact h

/-- A commit reaches the assembler of one incomer and leaves the other's (R16). -/
theorem State.commitIncomer_assembler_ne (s : State) {i k : Incomer} (hk : k ≠ i) (was now : Bool) :
    (s.commitIncomer i was now).assembler k = s.assembler k := by
  unfold State.commitIncomer
  split
  · rfl
  · show (if now then s.enableIncomer i else s.disableIncomer i).assembler k = _
    split
    · exact (s.setAssembler_assembler i k _).trans (if_neg hk)
    · refine (State.freeBanks_assembler i k hk _ (fun e he => ?_) _).trans
        ((s.setAssembler_assembler i k _).trans (if_neg hk))
      simpa using (List.mem_filter.mp he).2

theorem State.commitIncomer_law (s : State) (i : Incomer) (was now : Bool) (h : (s.assembler i).Law was) :
    ((s.commitIncomer i was now).assembler i).Law now := by
  unfold State.commitIncomer
  split
  · rename_i e
    exact e ▸ h
  · show ((if now then s.enableIncomer i else s.disableIncomer i).assembler i).Law now
    cases now with
    | true =>
      rw [if_pos rfl, State.enableIncomer, State.setAssembler_assembler, if_pos rfl]
      exact Assembler.closed_law h true 0
    | false =>
      refine State.freeBanks_law i false _ _ ?_
      rw [State.setAssembler_assembler, if_pos rfl]
      exact Assembler.closed_law h false _

theorem State.commitIncomer_engine (s : State) (i : Incomer) (was now : Bool) :
    (s.commitIncomer i was now).engine = s.engine := by
  have freed (es : List WaitEntry) (t : State) : (es.foldl State.freeBank t).engine = t.engine := by
    induction es generalizing t with
    | nil => rfl
    | cons e es ih =>
      rw [List.foldl_cons, ih]
      unfold State.freeBank
      split <;> rfl
  unfold State.commitIncomer
  split
  · rfl
  · cases now
    · exact freed _ _
    · rfl

/-- A commit only takes entries off the wait list (R16). -/
theorem State.commitIncomer_waitList (s : State) (i : Incomer) (was now : Bool) :
    (s.commitIncomer i was now).waitList =
      if was = true ∧ now = false then s.waitList.filter fun e => e.incomer != i else s.waitList := by
  unfold State.commitIncomer
  cases was <;> cases now <;> rfl

/-- The commit up to the clearing of the sources: the table is replaced and reaches both incomers (R74, R75). -/
def State.commitBoth (s : State) (t : Table) : State :=
  ((s.setJoint (s.joint.commit t)).commitIncomer .A s.joint.committed.enabled.a t.enabled.a).commitIncomer
    .B s.joint.committed.enabled.b t.enabled.b

theorem State.commit_eq (s : State) (t : Table) : s.commit t = (s.commitBoth t).clearSources.raiseAll .committed := rfl

@[simp] theorem State.clearSources_assembler (s : State) (i : Incomer) :
    s.clearSources.assembler i = s.assembler i := rfl

@[simp] theorem State.clearSources_engine (s : State) : s.clearSources.engine = s.engine := rfl

@[simp] theorem State.clearSources_waitList (s : State) : s.clearSources.waitList = s.waitList := rfl

theorem State.commitBoth_engine (s : State) (t : Table) : (s.commitBoth t).engine = s.engine := by
  rw [State.commitBoth, State.commitIncomer_engine, State.commitIncomer_engine, State.setJoint_engine]

theorem State.commitBoth_assembler_A (s : State) (t : Table) : (s.commitBoth t).assembler .A =
    ((s.setJoint (s.joint.commit t)).commitIncomer .A s.joint.committed.enabled.a t.enabled.a).assembler .A :=
  State.commitIncomer_assembler_ne _ (by decide) _ _

theorem State.commitBoth_law {s : State} (h : s.AssemblersLaw) (t : Table) (i : Incomer) :
    ((s.commitBoth t).assembler i).Law (t.enabled.get i) := by
  cases i with
  | A =>
    rw [State.commitBoth_assembler_A]
    refine State.commitIncomer_law _ .A _ _ ?_
    rw [State.setJoint_assembler]
    exact h .A
  | B =>
    refine State.commitIncomer_law _ .B _ t.enabled.b ?_
    rw [State.commitIncomer_assembler_ne _ (by decide), State.setJoint_assembler]
    exact h .B

theorem State.commit_pathLaw {s : State} (h : s.PathLaw) (t : Table) : (s.commit t).PathLaw := by
  obtain ⟨ha, he, hp⟩ := s.pathLaw_iff.mp h
  have l := s.commit_leaves (f := { joint := true, assemblers := true, results := true }) rfl rfl rfl t
  refine (State.pathLaw_iff _).mpr ⟨fun i => ?_, fun hf => ?_, l.posting rfl ▸ hp⟩
  · rw [State.commit_joint, State.commit_eq, State.raiseAll_assembler, State.clearSources_assembler]
    exact s.commitBoth_law ha t i
  · rw [State.commit_eq, State.raiseAll_engine, State.clearSources_engine, State.commitBoth_engine] at hf
    rw [State.commit_eq, State.raiseAll_waitList, State.clearSources_waitList, State.commitBoth,
      State.commitIncomer_waitList, State.commitIncomer_waitList, State.setJoint_waitList, he hf]
    simp

/-! ### The commands -/

theorem State.start_pathLaw (s : State) (cold : Bool) (accounts : Vector (Option Account) 24) (t : Table)
    (epoch : Count) (serial : Word) (second : Count) (band : BitVec 3) :
    (s.start cold accounts t epoch serial second band).PathLaw := by
  refine (State.pathLaw_iff _).mpr ⟨fun i => ?_, fun _ => rfl, fun _ => rfl, fun v hv => nomatch hv⟩
  cases i <;> exact Assembler.initial_law _

theorem exec_supplyFalling_pathLaw (s t : State) (h : s.PathLaw) (e : exec .supplyFalling s = .next t) : t.PathLaw := by
  obtain ⟨ha, he, hp⟩ := s.pathLaw_iff.mp h
  simp only [exec, execSupplyFalling] at e
  split at e <;> cases e
  · exact h
  · refine (State.pathLaw_iff _).mpr ⟨fun i => ?_, he, hp⟩
    show ((s.assemblers.map Assembler.interrupt).get i).Law _
    rw [PerIncomer.get_map]
    exact Assembler.interrupt_law (ha i)

theorem State.respond_pathLaw {s : State} (h : s.PathLaw) (p : Port) (code : Byte) (r : Response) :
    (s.respond p code r).PathLaw := h

theorem exec_concur_pathLaw (p : Port) (s t : State) (h : s.PathLaw) (e : exec (.concur p) s = .next t) : t.PathLaw := by
  cases e
  obtain he | ⟨r, _, _, he⟩ := s.take_cases p 14 _ <;> rw [he]
  · exact h
  · refine State.respond_pathLaw ?_ p r.code _
    split
    · exact h
    · split
      · exact h
      · split
        · exact h
        · split
          · exact s.commit_pathLaw h _
          · exact h

/-- A command that reaches no assembler, wait list, engine or posting unit keeps the law. -/
theorem exec_keeps_pathLaw_of_footprint {c : Instr} {s t : State} (h : s.PathLaw) (e : exec c s = .next t)
    (ha : (footprintOf c).assemblers = false) (hr : (footprintOf c).results = false)
    (hp : (footprintOf c).posting = false) (hj : t.joint.committed = s.joint.committed) : t.PathLaw := by
  obtain ⟨hs, he, hu⟩ := s.pathLaw_iff.mp h
  have l := Leaves.of_exec e
  refine (State.pathLaw_iff _).mpr ⟨State.assemblersLaw_congr hs (l.assemblers ha) hj, ?_, l.posting hp ▸ hu⟩
  unfold State.EngineLaw
  rw [l.engine hr, l.waitList hr]
  exact he

/-- The committed table stands at every command but CONCUR and a start (R65). -/
theorem exec_joint_committed {c : Instr} {s t : State} (e : exec c s = .next t) (hc : ∀ p, c ≠ .concur p)
    (hp : c ≠ .powerOnReset) : t.joint.committed = s.joint.committed := by
  cases exec_jointStep c s t e with
  | kept hc he => exact hc
  | counted hc he => exact hc
  | proposed hc he => exact hc
  | committed p q r hcmd => exact absurd hcmd (hc p)
  | cold hcmd => exact absurd hcmd hp

theorem exec_keeps_pathLaw (c : Instr) (s t : State) (h : s.PathLaw) (e : exec c s = .next t) : t.PathLaw := by
  obtain ⟨ha, he, hp⟩ := s.pathLaw_iff.mp h
  cases c
  case frameArrival i bytes =>
    simp only [exec, execFrameArrival] at e
    split at e
    · cases e; exact h
    · split at e <;> cases e
      · exact State.deliver_pathLaw (s := s.setReceiver i _) h i _
      · exact h
  case timeLimitClose i =>
    simp only [exec, execTimeLimitClose] at e
    split at e <;> cases e
    · rename_i w hw
      unfold State.limitReached at hw
      split at hw
      · rename_i w' hs
        exact s.closeWindow_pathLaw h hs _ _ _
      · cases hw
    · exact h
  case transformBegin =>
    simp only [exec, execTransformBegin, s.headStands_eq_false he, Bool.false_eq_true, if_false] at e
    cases e
    exact h
  case invalidEntryLeave =>
    simp only [exec, execInvalidEntryLeave, s.headStands_eq_false he, Bool.false_eq_true, if_false] at e
    cases e
    exact h
  case transformCompletion =>
    simp only [exec, execTransformCompletion] at e
    split at e <;> cases e
    · exact h
    · exact s.complete_settled_pathLaw h _
  case postingTake =>
    cases e
    exact (State.pathLaw_iff _).mpr ⟨ha, he, Posting.takeNext_law hp.2⟩
  case posting =>
    simp only [exec, execPosting] at e
    split at e <;> cases e
    · exact h
    · rename_i v _
      have l := s.postTo_leaves (f := { accounts := true }) rfl v.position v.record
      refine (State.pathLaw_iff _).mpr ⟨State.assemblersLaw_congr ha (l.assemblers rfl)
        (congrArg Joint.committed (l.joint rfl)), ?_, Posting.takeNext_law fun v' hv' => Visit.after_position hv'⟩
      unfold State.EngineLaw
      dsimp only
      rw [l.engine rfl, l.waitList rfl]
      exact he
  case concur p => exact exec_concur_pathLaw p s t h e
  case supplyFalling => exact exec_supplyFalling_pathLaw s t h e
  case powerOnReset =>
    simp only [exec, execPowerOnReset] at e
    split at e <;> cases e <;> exact s.start_pathLaw _ _ _ _ _ _ _
  all_goals exact exec_keeps_pathLaw_of_footprint h e rfl rfl rfl (exec_joint_committed e (by nofun) (by nofun))

/-- Settles O15. -/
theorem stepKeepsPathLaw : Obligations.StepKeepsPathLaw :=
  step_keeps (P := State.PathLaw) (fun _ _ h => h) (fun _ h => h) exec_keeps_pathLaw

end Sys2Proof.Machine

/-! The laws of the freeze unit (R155, R159, R162) hold after every step. -/

namespace Sys2Proof.Machine

/-! ### The law over both buffers alike -/

/-- The law of the freeze unit: no port holds two buffers, a port waits once and holds none, a port waits only while both
buffers are HELD, and the timers hold at most 255 (R155, R159, R162). -/
structure FreezeUnit.Law (u : FreezeUnit) : Prop where
  unique : ∀ b c p, (u.buffer b).holder = some p → (u.buffer c).holder = some p → b = c
  nodup : (u.waiting.map (·.port)).Nodup
  apart : ∀ w ∈ u.waiting, ∀ b, (u.buffer b).holder ≠ some w.port
  crowded : u.waiting ≠ [] → ∀ b, (u.buffer b).held.isSome = true
  timers : ∀ b, (u.buffer b).timer ≤ 255

theorem FreezeUnit.heldBy_eq_none (u : FreezeUnit) (p : Port) :
    u.heldBy p = none ↔ ∀ b, (u.buffer b).holder ≠ some p := by
  have both : (∀ b, (u.buffer b).holder ≠ some p) ↔ u.buffer0.holder ≠ some p ∧ u.buffer1.holder ≠ some p :=
    Fin.forall_fin_two
  rw [both]
  unfold FreezeUnit.heldBy
  split
  · simp_all
  · split <;> simp_all

theorem FreezeUnit.holder_of_heldBy {u : FreezeUnit} {p : Port} {b : Fin 2} (h : u.heldBy p = some b) :
    (u.buffer b).holder = some p := by
  unfold FreezeUnit.heldBy at h
  split at h
  · cases h; assumption
  · split at h <;> cases h; assumption

theorem Buffer.holder_eq_some {x : Buffer} {p : Port} : x.holder = some p ↔ ∃ h, x.held = some h ∧ h.holder = p := by
  simp [Buffer.holder]

theorem State.freezeLaw_iff (s : State) : s.FreezeLaw ↔ s.freeze.Law := by
  have two {q : Fin 2 → Prop} : (∀ b, q b) ↔ q 0 ∧ q 1 := Fin.forall_fin_two
  constructor
  · rintro ⟨hunique, hnodup, hapart, hcrowded, htimer0, htimer1⟩
    refine ⟨fun b c p hb hc => ?_, hnodup, fun w hw => (FreezeUnit.heldBy_eq_none _ _).mp (hapart w hw),
      fun h => two.mpr (hcrowded h), two.mpr ⟨htimer0, htimer1⟩⟩
    have cross (h0 : s.freeze.buffer0.holder = some p) (h1 : s.freeze.buffer1.holder = some p) : False := by
      obtain e | e := hunique
      · exact nomatch e.symm.trans h0
      · exact e (h0.trans h1.symm)
    match b, c with
    | 0, 0 => rfl
    | 1, 1 => rfl
    | 0, 1 => exact (cross hb hc).elim
    | 1, 0 => exact (cross hc hb).elim
  · intro h
    refine ⟨?_, h.nodup, fun w hw => (FreezeUnit.heldBy_eq_none _ _).mpr (h.apart w hw),
      fun hne => two.mp (h.crowded hne), h.timers 0, h.timers 1⟩
    cases h0 : s.freeze.buffer0.holder with
    | none => exact .inl rfl
    | some p => exact .inr fun e => absurd (h.unique 0 1 p h0 e.symm) (by decide)

/-! ### The operations of the unit -/

/-- Holders that stand, a waiting list that only shrinks, and timers in range keep the law. -/
theorem FreezeUnit.Law.of_holders {u v : FreezeUnit} (h : u.Law)
    (hold : ∀ b, (v.buffer b).holder = (u.buffer b).holder) (hw : v.waiting.Sublist u.waiting)
    (ht : ∀ b, (v.buffer b).timer ≤ 255) : v.Law where
  unique b c p := by
    rw [hold b, hold c]
    exact h.unique b c p
  nodup := h.nodup.sublist (hw.map _)
  apart w hm b := by
    rw [hold b]
    exact h.apart w (hw.subset hm) b
  crowded hne b := by
    have hu : u.waiting ≠ [] := fun e => hne (List.sublist_nil.mp (e ▸ hw))
    have := h.crowded hu b
    have heq := hold b
    unfold Buffer.holder at heq
    cases hv : (v.buffer b).held with
    | some x => rfl
    | none => simp_all
  timers := ht

/-- Buffer `b` given to a port that holds none and does not wait, with no port waiting or all waiting for a HELD `b`. -/
theorem FreezeUnit.Law.give {u : FreezeUnit} (h : u.Law) (b : Fin 2) (x : Holding) (n : Nat) (ws : List Waiter)
    (hn : n ≤ 255) (hx : ∀ c, (u.buffer c).holder ≠ some x.holder) (hs : ws.Sublist u.waiting)
    (hnw : x.holder ∉ ws.map (·.port)) :
    ({ u with waiting := ws }.setBuffer b { timer := n, held := some x }).Law := by
  have at_ (c : Fin 2) : (({ u with waiting := ws }.setBuffer b { timer := n, held := some x } : FreezeUnit).buffer c)
      = if c = b then { timer := n, held := some x } else u.buffer c := FreezeUnit.setBuffer_buffer _ b c _
  have hwaiting : ({ u with waiting := ws }.setBuffer b { timer := n, held := some x } : FreezeUnit).waiting = ws := by
    unfold FreezeUnit.setBuffer
    split <;> rfl
  refine ⟨fun c d p hc hd => ?_, ?_, ?_, ?_, ?_⟩
  · rw [at_] at hc hd
    split at hc <;> split at hd
    · simp_all
    · cases hc
      exact absurd hd (hx d)
    · cases hd
      exact absurd hc (hx c)
    · exact h.unique c d p hc hd
  · rw [hwaiting]
    exact h.nodup.sublist (hs.map _)
  · intro w hw c
    rw [hwaiting] at hw
    rw [at_]
    split
    · intro e
      have hport : x.holder = w.port := Option.some.inj e
      exact hnw (hport ▸ List.mem_map_of_mem hw)
    · exact h.apart w (hs.subset hw) c
  · intro hne c
    rw [hwaiting] at hne
    rw [at_]
    split
    · rfl
    · exact h.crowded (fun e => hne (List.sublist_nil.mp (e ▸ hs))) c
  · intro c
    rw [at_]
    split
    · exact hn
    · exact h.timers c

@[simp] theorem FreezeUnit.setBuffer_waiting (u : FreezeUnit) (b : Fin 2) (x : Buffer) :
    (u.setBuffer b x).waiting = u.waiting := by
  unfold FreezeUnit.setBuffer
  split <;> rfl

/-- A buffer that keeps its holder keeps the law while its timer is in range. -/
theorem FreezeUnit.Law.setBuffer {u : FreezeUnit} (h : u.Law) (b : Fin 2) (x : Buffer)
    (hx : x.holder = (u.buffer b).holder) (ht : x.timer ≤ 255) : (u.setBuffer b x).Law := by
  refine h.of_holders (fun c => ?_) (by rw [u.setBuffer_waiting]) fun c => ?_
  · rw [FreezeUnit.setBuffer_buffer]
    split
    · rename_i e
      rw [e, hx]
    · rfl
  · rw [FreezeUnit.setBuffer_buffer]
    split
    · exact ht
    · exact h.timers c

/-- With no port waiting a buffer may become FREE (R160). -/
theorem FreezeUnit.Law.free {u : FreezeUnit} (h : u.Law) (hw : u.waiting = []) (b : Fin 2) :
    (u.setBuffer b { u.buffer b with held := none }).Law := by
  have at_ (c : Fin 2) : (u.setBuffer b { u.buffer b with held := none }).buffer c
      = if c = b then { u.buffer b with held := none } else u.buffer c := FreezeUnit.setBuffer_buffer _ b c _
  refine ⟨fun c d p hc hd => ?_, ?_, ?_, ?_, fun c => ?_⟩
  · rw [at_] at hc hd
    split at hc
    · cases hc
    · split at hd
      · cases hd
      · exact h.unique c d p hc hd
  · simp [hw]
  · simp [hw]
  · simp [hw]
  · rw [at_]
    split
    · exact h.timers b
    · exact h.timers c

theorem Buffer.reload_holder (x : Buffer) (n : Nat) : (x.reload n).holder = x.holder := by
  unfold Buffer.reload
  split
  · simp_all [Buffer.holder]
  · rfl

theorem Buffer.reload_timer {x : Buffer} {n : Nat} (hx : x.timer ≤ 255) (hn : n ≤ 255) : (x.reload n).timer ≤ 255 := by
  unfold Buffer.reload
  split
  · exact hn
  · exact hx

theorem Buffer.counted_holder (x : Buffer) : x.counted.holder = x.holder := by
  unfold Buffer.counted
  split
  · split <;> simp_all [Buffer.holder]
  · rfl

theorem Buffer.counted_timer {x : Buffer} (hx : x.timer ≤ 255) : x.counted.timer ≤ 255 := by
  unfold Buffer.counted
  split
  · split
    · exact hx
    · exact (Nat.sub_le _ _).trans hx
  · exact hx

/-- The same done to both buffers, leaving their holders. -/
theorem FreezeUnit.Law.both {u : FreezeUnit} (h : u.Law) (f : Buffer → Buffer) (hf : ∀ x, (f x).holder = x.holder)
    (ht : ∀ x : Buffer, x.timer ≤ 255 → (f x).timer ≤ 255) :
    { u with buffer0 := f u.buffer0, buffer1 := f u.buffer1 }.Law := by
  refine h.of_holders (fun b => ?_) (.refl _) fun b => ?_
  · match b with
    | 0 => exact hf _
    | 1 => exact hf _
  · match b with
    | 0 => exact ht _ (h.timers 0)
    | 1 => exact ht _ (h.timers 1)

/-! ### The operations of the state -/

/-- The slot length is a byte of the committed table (R162). -/
theorem State.slotLength_le (s : State) : s.slotLength ≤ 255 := Nat.le_of_lt_succ s.joint.committed.slotLength.isLt

theorem State.reloadIfEmpty_law {s : State} (h : s.freeze.Law) : s.reloadIfEmpty.freeze.Law := by
  unfold State.reloadIfEmpty
  split
  · exact h.both (·.reload s.slotLength) (fun x => x.reload_holder _)
      fun x hx => Buffer.reload_timer hx s.slotLength_le
  · exact h

/-- A buffer given up passes to the head of the list or becomes FREE (R160, R161). -/
theorem State.freeBuffer_law {s : State} (h : s.freeze.Law) (b : Fin 2) : (s.freeBuffer b).freeze.Law := by
  unfold State.freeBuffer
  split
  · rename_i hw
    exact h.free hw b
  · rename_i w rest hw
    have hmem : w ∈ s.freeze.waiting := hw ▸ List.mem_cons_self
    have hnodup := h.nodup
    rw [hw, List.map_cons, List.nodup_cons] at hnodup
    refine State.reloadIfEmpty_law ?_
    exact h.give b _ s.slotLength rest s.slotLength_le (h.apart w hmem) (hw ▸ List.sublist_cons_self w rest) hnodup.1

theorem State.giveUp_law {s : State} (h : s.freeze.Law) (p : Port) : (s.giveUp p).freeze.Law := by
  unfold State.giveUp
  split
  · exact s.freeBuffer_law h _
  · split
    · refine State.reloadIfEmpty_law ?_
      exact h.of_holders (fun _ => rfl) List.filter_sublist h.timers
    · exact h

theorem State.reclaim_law {s : State} (h : s.freeze.Law) (b : Fin 2) (p : Port) : (s.reclaim b p).freeze.Law :=
  State.freeBuffer_law (s := s.raise p .reclaimed) h b

/-- The reclaim-due mark is free of the law (R165). -/
theorem FreezeUnit.Law.setDue {u : FreezeUnit} (h : u.Law) {b : Fin 2} {x : Holding} (hx : (u.buffer b).held = some x)
    (due : Bool) : (u.setBuffer b { u.buffer b with held := some { x with reclaimDue := due } }).Law :=
  h.setBuffer b _ (by simp [Buffer.holder, hx]) (h.timers b)

theorem State.expireSlot_law {s : State} (h : s.freeze.Law) (b : Fin 2) : (s.expireSlot b).freeze.Law := by
  unfold State.expireSlot
  split
  · rename_i x hx
    have hheld : (s.freeze.buffer b).held = some x := by
      unfold State.expired at hx
      split at hx
      · split at hx <;> cases hx
        assumption
      · cases hx
    split
    · exact h.setDue hheld true
    · exact s.reclaim_law h b _
  · exact h

theorem State.countSlots_law {s : State} (h : s.freeze.Law) : s.countSlots.freeze.Law := by
  unfold State.countSlots
  split
  · exact h
  · exact State.expireSlot_law (State.expireSlot_law (h.both Buffer.counted Buffer.counted_holder
      fun _ => Buffer.counted_timer) 0) 1

theorem State.settleReclaim_law {s : State} (h : s.freeze.Law) (b : Fin 2) : (s.settleReclaim b).freeze.Law := by
  unfold State.settleReclaim
  split
  · rename_i x hx
    split
    · dsimp only
      split
      · exact h.setDue hx false
      · exact State.reclaim_law (s := s.setFreeze _) (h.setDue hx false) b _
    · exact h
  · exact h

theorem State.secondTick_law {s : State} (h : s.freeze.Law) : s.secondTick.freeze.Law := by
  refine State.countSlots_law ?_
  rw [State.countLapse_eq]
  exact h

/-! ### The requests and the commands -/

theorem FreezeUnit.lowestFree_some {u : FreezeUnit} {b : Fin 2} (h : u.lowestFree = some b) :
    (u.buffer b).held = none := by
  unfold FreezeUnit.lowestFree at h
  split at h
  · cases h
    exact Option.isNone_iff_eq_none.mp (by assumption)
  · split at h <;> cases h
    exact Option.isNone_iff_eq_none.mp (by assumption)

theorem FreezeUnit.lowestFree_none {u : FreezeUnit} (h : u.lowestFree = none) (b : Fin 2) :
    (u.buffer b).held.isSome = true := by
  unfold FreezeUnit.lowestFree at h
  split at h
  · cases h
  · split at h
    · cases h
    · rename_i h0 h1
      match b with
      | 0 => exact Option.isSome_iff_ne_none.mpr fun k => h0 (Option.isNone_iff_eq_none.mpr k)
      | 1 => exact Option.isSome_iff_ne_none.mpr fun k => h1 (Option.isNone_iff_eq_none.mpr k)

theorem FreezeUnit.isWaiting_iff (u : FreezeUnit) (p : Port) : u.isWaiting p = true ↔ p ∈ u.waiting.map (·.port) := by
  simp [FreezeUnit.isWaiting]

/-- A port that holds none and does not wait joins the list behind the others, both buffers being HELD (R157). -/
theorem FreezeUnit.Law.queue {u : FreezeUnit} (h : u.Law) (p : Port) (n : Nat) (hheld : u.heldBy p = none)
    (hwaits : ¬u.isWaiting p = true) (hfull : u.lowestFree = none) :
    ({ u with waiting := u.waiting ++ [{ port := p, account := n }] } : FreezeUnit).Law where
  unique := h.unique
  nodup := by
    rw [FreezeUnit.isWaiting_iff] at hwaits
    rw [List.map_append, List.nodup_append]
    refine ⟨h.nodup, List.nodup_singleton _, fun a ha b hb => ?_⟩
    rw [List.map_singleton, List.mem_singleton] at hb
    rintro rfl
    have hport : a = p := hb
    exact hwaits (hport ▸ ha)
  apart w hw b := by
    obtain hw | hw := List.mem_append.mp hw
    · exact h.apart w hw b
    · rw [List.mem_singleton.mp hw]
      exact (FreezeUnit.heldBy_eq_none _ _).mp hheld b
  crowded _ := u.lowestFree_none hfull
  timers := h.timers

theorem exec_freeze_law (p : Port) (s t : State) (h : s.freeze.Law) (e : exec (.freeze p) s = .next t) :
    t.freeze.Law := by
  cases e
  obtain he | ⟨r, _, _, he⟩ := s.take_cases p 10 _ <;> rw [he]
  · exact h
  · rw [State.respond_freeze]
    obtain ⟨i, he⟩ | ⟨a, _, _, he⟩ := s.onAccount_cases p r.account .freeze _ <;> rw [he]
    · exact h
    · split
      · exact h
      · rename_i hnone
        have hheld : s.freeze.heldBy p = none := by simpa using hnone
        split
        · exact h
        · rename_i hwaits
          split
          · rename_i b hb
            have hempty : s.freeze.waiting = [] := by
              by_contra hne
              have := h.crowded hne b
              rw [FreezeUnit.lowestFree_some hb] at this
              cases this
            exact h.give b _ s.slotLength s.freeze.waiting s.slotLength_le
              ((FreezeUnit.heldBy_eq_none _ _).mp hheld) (.refl _) (by simp [hempty])
          · rename_i hfull
            exact h.queue p r.account hheld hwaits hfull

theorem exec_freezeRead_law (p : Port) (ev : TxEvent) (s t : State) (h : s.freeze.Law)
    (e : exec (.freezeRead p ev) s = .next t) : t.freeze.Law := by
  cases e
  obtain ⟨_, he⟩ | he | ⟨_, _, he⟩ | ⟨x, w, _, _, _, he⟩ | ⟨x, _, _, _, he⟩ := s.transact_cases p .freeze ev
      (s.freezeHead p) (fun t _ => s.freezeWord p t) (fun _ => (s.close p).endFreezeRead p) <;> rw [he]
  · exact h
  · exact h
  · rw [(s.between_leaves {} p .freeze ev _ fun r w => (s.freezeHead_portsOnly p r w).leaves {}).freeze rfl]
    exact h
  · rw [((s.freezeWord_portsOnly p x).leaves {}).freeze rfl]
    exact h
  · unfold State.endFreezeRead
    split
    · exact State.settleReclaim_law (s := s.close p) h _
    · exact h

theorem exec_keeps_freezeUnitLaw (c : Instr) (s t : State) (h : s.freeze.Law) (e : exec c s = .next t) :
    t.freeze.Law := by
  have l := Leaves.of_exec e
  cases c
  case secondPulse =>
    simp only [exec, execSecondPulse] at e
    split at e
    · cases e; exact h
    · cases e; exact h
    · split at e <;> cases e
      · exact State.secondTick_law (s := s.setTime _) h
      · exact h
  case holdoverEntry =>
    simp only [exec, execHoldoverEntry] at e
    split at e <;> cases e
    · exact State.secondTick_law (s := (s.setTime _).mapAccounts _) h
    · exact h
  case freeRunTick =>
    simp only [exec, execFreeRunTick] at e
    split at e <;> cases e
    · exact s.secondTick_law h
    · exact h
  case slotTimerExpiry b => cases e; exact s.expireSlot_law h b
  case deferredReclaim b => cases e; exact s.settleReclaim_law h b
  case freeze p => exact exec_freeze_law p s t h e
  case unfreeze p =>
    cases e
    obtain he | ⟨r, _, _, he⟩ := s.take_cases p 11 _ <;> rw [he]
    · exact h
    · exact s.giveUp_law h p
  case freezeRead p ev => exact exec_freezeRead_law p ev s t h e
  case portReset p =>
    cases e
    show ((s.giveUp p).withdrawOwn p).freeze.Law
    rw [((s.giveUp p).withdrawOwn_leaves (f := { joint := true }) rfl p).freeze rfl]
    exact s.giveUp_law h p
  case powerOnReset =>
    have hinitial : FreezeUnit.initial.Law :=
      (State.freezeLaw_iff State.reset).mp ⟨.inl rfl, .nil, nofun, fun h => absurd rfl h, by decide, by decide⟩
    simp only [exec, execPowerOnReset] at e
    split at e <;> cases e <;> exact hinitial
  all_goals
    rw [l.freeze rfl]
    exact h

/-- Settles O46. -/
theorem stepKeepsFreezeLaw : Obligations.StepKeepsFreezeLaw := by
  refine step_keeps (P := State.FreezeLaw) (fun _ _ h => h) (fun _ h => h) fun c s t h e => ?_
  rw [State.freezeLaw_iff] at h ⊢
  exact exec_keeps_freezeUnitLaw c s t h e

end Sys2Proof.Machine

/-! The operations on an account's record keep its laws (R80 to R83, R115 to R123, R129). -/

namespace Sys2Proof.Machine

/-! ### The ring (R122) -/

/-- The ring's law over its records: slots in range, and no record but the newest is WRITING. -/
structure Ring.Parts (r : Ring) : Prop where
  length : r.records.length ≤ Config.ringDepth
  emptySlot : r.emptySlot < Config.ringDepth
  slots : ∀ h ∈ r.records, h.slot < Config.ringDepth
  stored : r.records.Pairwise fun h _ => h.writing = false

theorem Ring.law_iff (r : Ring) : r.Law ↔ r.Parts := by
  constructor
  · rintro ⟨hlength, hempty, hrecords⟩
    refine ⟨hlength, hempty, fun h hh => ?_, List.pairwise_iff_getElem.mpr fun i j hi hj hij => ?_⟩
    · obtain ⟨k, hk⟩ := List.mem_iff_getElem?.mp hh
      exact (hrecords k h hk).1
    · obtain ⟨_, hlast⟩ := hrecords i _ (List.getElem?_eq_getElem hi)
      by_contra hw
      have := hlast (by simpa using hw)
      omega
  · rintro ⟨hlength, hempty, hslots, hstored⟩
    refine ⟨hlength, hempty, fun k h hk => ⟨hslots h (List.mem_of_getElem? hk), fun hw => ?_⟩⟩
    obtain ⟨hlt, rfl⟩ := List.getElem?_eq_some_iff.mp hk
    by_contra hne
    have hnext : k + 1 < r.records.length := by omega
    have := List.pairwise_iff_getElem.mp hstored k (k + 1) hlt hnext (Nat.lt_succ_self k)
    simp_all

/-- With no record WRITING at the head of the ring none is (R122). -/
theorem Ring.Parts.all_stored {r : Ring} (h : r.Parts) (hw : r.writing = false) : ∀ x ∈ r.records, x.writing = false := by
  obtain hnil | ⟨init, last, hrec⟩ := List.eq_nil_or_concat r.records
  · simp [hnil]
  · have hstored := h.stored
    rw [hrec, List.concat_eq_append, List.pairwise_append] at hstored
    obtain ⟨_, _, hinit⟩ := hstored
    have hlast : last.writing = false := by simpa [Ring.writing, hrec] using hw
    intro x hx
    rw [hrec, List.concat_eq_append, List.mem_append, List.mem_singleton] at hx
    obtain hx | rfl := hx
    · exact hinit x hx last (List.mem_singleton_self _)
    · exact hlast

theorem Ring.Parts.nextSlot_lt {r : Ring} (h : r.Parts) : r.nextSlot < Config.ringDepth := by
  unfold Ring.nextSlot
  cases r.records.getLast? with
  | none => exact h.emptySlot
  | some x => exact Nat.mod_lt _ (Nat.succ_pos 31)

@[simp] theorem Ring.join_writing (r : Ring) (h : HistoryRecord) : (r.join h).writing = h.writing := by
  simp [Ring.join, Ring.writing]

/-- A new newest record in a ring with none WRITING (R116, R122). -/
theorem Ring.Parts.join {r : Ring} (h : r.Parts) (hw : r.writing = false) {x : HistoryRecord}
    (hx : x.slot < Config.ringDepth) : (r.join x).Parts := by
  have hlen := h.length
  have hsub : (if r.full then r.records.drop 1 else r.records).Sublist r.records := by
    split
    · exact List.drop_sublist 1 _
    · exact .refl _
  refine ⟨?_, h.emptySlot, fun y hy => ?_, ?_⟩
  · unfold Ring.join
    dsimp only
    rw [List.length_append, List.length_singleton]
    split
    · rename_i hf
      have : Config.ringDepth ≤ r.records.length := by simpa [Ring.full] using hf
      rw [List.length_drop]
      have : 0 < Config.ringDepth := Nat.succ_pos 31
      omega
    · rename_i hf
      simpa [Ring.full] using hf
  · obtain hy | hy := List.mem_append.mp hy
    · exact h.slots y (hsub.subset hy)
    · rwa [List.mem_singleton.mp hy]
  · refine List.pairwise_append.mpr ⟨h.stored.sublist hsub, List.pairwise_singleton _ _, fun y hy _ _ => ?_⟩
    exact h.all_stored hw y (hsub.subset hy)

theorem Ring.Parts.store {r : Ring} (h : r.Parts) : r.store.Parts := by
  refine ⟨?_, h.emptySlot, fun y hy => ?_, ?_⟩
  · simpa [Ring.store] using h.length
  · obtain ⟨x, hx, rfl⟩ := List.mem_map.mp hy
    exact h.slots x hx
  · exact List.pairwise_map.mpr (List.pairwise_of_forall fun _ _ => rfl)

@[simp] theorem Ring.store_writing (r : Ring) : r.store.writing = false := by
  unfold Ring.writing Ring.store
  cases h : r.records.getLast? <;> simp [h]

@[simp] theorem Ring.store_full (r : Ring) : r.store.full = r.full := by simp [Ring.store, Ring.full]

theorem Ring.Parts.release {r : Ring} (h : r.Parts) (q : Count) : (r.release q).Parts := by
  refine ⟨?_, ?_, fun y hy => h.slots y (List.mem_of_mem_filter hy), h.stored.sublist List.filter_sublist⟩
  · exact (List.length_filter_le _ _).trans h.length
  · unfold Ring.release
    dsimp only
    split
    · exact h.nextSlot_lt
    · exact h.emptySlot

/-- A WRITING record is never released (R123). -/
theorem Ring.release_writing {r : Ring} (h : r.writing = true) (q : Count) : (r.release q).writing = true := by
  obtain hnil | ⟨init, last, hrec⟩ := List.eq_nil_or_concat r.records
  · simp [Ring.writing, hnil] at h
  · have hlast : last.writing = true := by simpa [Ring.writing, hrec] using h
    simp [Ring.writing, Ring.release, hrec, List.filter_append, HistoryRecord.releasedBy, hlast]

/-- A release that removes nothing leaves the records (R123). -/
theorem Ring.release_records_of_length {r : Ring} {q : Count}
    (h : ¬(r.release q).records.length < r.records.length) : (r.release q).records = r.records :=
  List.filter_sublist.eq_of_length_le (Nat.le_of_not_lt h)

/-! ### The account's law by parts -/

/-- The laws of an account's record, each under its own name (R81 to R83, R90, R115, R122, R129). -/
structure Account.Parts (a : Account) : Prop where
  some_bin : 1 ≤ a.bins.length
  bin_count : a.bins.length ≤ Config.maxBins
  codes : (a.bins.map (·.code)).Nodup
  bin : ∀ b ∈ a.bins, b.code ≤ Config.maxCode ∧ b.value ≤ Config.binMax
  mask : a.bandMask ≠ 0
  period : a.period ≤ Config.maxPeriod
  merged : a.header.merged ≤ Config.count16Max
  interruptions : a.header.interruptions ≤ Config.count16Max
  watch : ∀ w ∈ a.watches.toList, w.low ≤ w.high ∧ w.bin < a.bins.length
  ring : a.ring.Parts
  pending : a.pendingClose.isSome = true → a.ring.writing = true
  deferred : a.deferredClose = true → a.policy = .hold ∧ a.ring.full = true ∧ a.ring.writing = false

theorem Account.law_iff (a : Account) : a.Law ↔ a.Parts := by
  constructor
  · rintro ⟨h1, h2, h3, h4, h5, h6, h7, h8, h9, h10, h11, h12⟩
    exact ⟨h1, h2, h3, h4, h5, h6, h7, h8, h9, a.ring.law_iff.mp h10, h11, h12⟩
  · rintro ⟨h1, h2, h3, h4, h5, h6, h7, h8, h9, h10, h11, h12⟩
    exact ⟨h1, h2, h3, h4, h5, h6, h7, h8, h9, a.ring.law_iff.mpr h10, h11, h12⟩

theorem raiseHeld_le (top n : Nat) : raiseHeld top n ≤ top := Nat.min_le_left _ _

/-! ### Bins and watches -/

/-- Bins changed one by one keep the law when each keeps its code and its range. -/
theorem Account.Parts.mapBins {a : Account} (h : a.Parts) (f : Bin → Bin) (hc : ∀ b, (f b).code = b.code)
    (hv : ∀ b, b.value ≤ Config.binMax → (f b).value ≤ Config.binMax) : { a with bins := a.bins.map f }.Parts :=
  { h with
    some_bin := by simpa using h.some_bin
    bin_count := by simpa using h.bin_count
    codes := by simpa [Function.comp_def, hc] using h.codes
    bin := by
      intro b hb
      obtain ⟨x, hx, rfl⟩ := List.mem_map.mp hb
      obtain ⟨hcode, hvalue⟩ := h.bin x hx
      exact ⟨by rwa [hc], hv x hvalue⟩
    watch := by simpa using h.watch }

/-- Watches changed one by one keep the law when each keeps its bin and its limits. -/
theorem Account.Parts.mapWatches {a : Account} (h : a.Parts) (f : Watch → Watch)
    (hf : ∀ w, (f w).bin = w.bin ∧ (f w).low = w.low ∧ (f w).high = w.high) :
    { a with watches := mapVec f a.watches }.Parts :=
  { h with
    watch := by
      intro v hv
      rw [mapVec_toList] at hv
      obtain ⟨w, hw, rfl⟩ := List.mem_map.mp hv
      obtain ⟨hbin, hlow, hhigh⟩ := hf w
      rw [hbin, hlow, hhigh]
      exact h.watch w hw }

theorem Watch.cross_fields (w : Watch) (k : Option Crossing) :
    (w.cross k).bin = w.bin ∧ (w.cross k).low = w.low ∧ (w.cross k).high = w.high := by
  rw [Watch.cross_eq]
  exact ⟨rfl, rfl, rfl⟩

theorem Account.Parts.evaluate {a : Account} (h : a.Parts) (k : Option Booked) : (a.evaluate k).1.Parts :=
  h.mapWatches _ fun w => w.cross_fields _

theorem Bin.add_value_le (b : Bin) (x : Nat) : (b.add x).value ≤ Config.binMax := by
  unfold Bin.add
  split
  · exact le_rfl
  · dsimp only
    omega

theorem Bin.add_code (b : Bin) (x : Nat) : (b.add x).code = b.code := by
  unfold Bin.add
  split <;> rfl

theorem Bin.book_code (b : Bin) (f : Figures) : (b.book f).code = b.code := by
  unfold Bin.book
  split
  · exact b.add_code _
  · rfl

theorem Bin.book_value_le (b : Bin) (f : Figures) (h : b.value ≤ Config.binMax) : (b.book f).value ≤ Config.binMax := by
  unfold Bin.book
  split
  · exact b.add_value_le _
  · exact h

/-! ### The close operation -/

theorem Account.Parts.merge {a : Account} (h : a.Parts) : a.merge.Parts :=
  { h with merged := raiseHeld_le _ _ }

theorem Account.Parts.carryOut {a : Account} (h : a.Parts) (m : Moment) (cause : CloseCause)
    (hw : a.ring.writing = false) (hf : ¬(a.policy = .hold ∧ a.ring.full = true)) : (a.carryOut m cause).Parts := by
  have hring : (a.ring.join (a.recordOf m cause)).Parts := h.ring.join hw h.ring.nextSlot_lt
  have zeroed : { a with bins := if a.mode = Mode.reset then a.bins.map Bin.zeroed else a.bins }.Parts := by
    split
    · exact h.mapBins _ (fun _ => rfl) fun _ _ => Nat.zero_le _
    · exact h
  refine { zeroed with merged := Nat.zero_le _, interruptions := ?_, ring := hring, pending := ?_, deferred := ?_ }
  · unfold Account.carryOut Header.fresh
    dsimp only
    split <;> decide
  · exact fun _ => Ring.join_writing _ _
  · intro hd
    obtain ⟨hhold, hfull, _⟩ := h.deferred hd
    exact absurd ⟨hhold, hfull⟩ hf

theorem Account.Parts.closeBegin {a : Account} (h : a.Parts) (m : Moment) (cause : CloseCause) :
    (a.closeBegin m cause).1.Parts := by
  obtain ⟨hw, _, he⟩ | ⟨_, _, he⟩ | ⟨hw, hhold, hfull, he⟩ | ⟨hw, hf, _, he⟩ | ⟨hw, hf, _, he⟩ :=
    a.closeBegin_cases m cause <;> rw [he]
  · exact { h with pending := fun _ => hw }
  · exact h.merge
  · exact { h.merge with deferred := fun _ => ⟨hhold, hfull, hw⟩ }
  · exact (h.carryOut m cause hw hf).evaluate none
  · exact h.carryOut m cause hw hf

/-- The pending close begins, whatever stood between its mark and the ring (R119). -/
theorem Account.Parts.pendingBegin {a : Account} (h : { a with pendingClose := none }.Parts)
    (hp : a.pendingClose = none → a.Parts) (m : Moment) : (a.pendingBegin m).1.Parts := by
  unfold Account.pendingBegin
  split
  · exact h.closeBegin m _
  · exact hp (by assumption)

theorem Account.Parts.deferredBegin {a : Account} (h : { a with deferredClose := false }.Parts)
    (hd : a.deferredClose = false → a.Parts) (m : Moment) : (a.deferredBegin m).1.Parts := by
  unfold Account.deferredBegin
  split
  · exact h.closeBegin m _
  · rename_i hnot
    exact hd (by simpa using hnot)

theorem Account.Parts.clearPending {a : Account} (h : a.Parts) : { a with pendingClose := none }.Parts :=
  { h with pending := nofun }

theorem Account.Parts.clearDeferred {a : Account} (h : a.Parts) : { a with deferredClose := false }.Parts :=
  { h with deferred := nofun }

/-- The record-written event with the pending close that it begins (R118, R119). -/
theorem Account.Parts.written {a : Account} (h : a.Parts) (hw : a.ring.writing = true) (m : Moment) :
    ({ a with ring := a.ring.store }.pendingBegin m).1.Parts := by
  have hdeferred : a.deferredClose ≠ true := fun hd => by
    obtain ⟨_, _, hnot⟩ := h.deferred hd
    rw [hw] at hnot
    cases hnot
  have stored : { a with ring := a.ring.store, pendingClose := none }.Parts :=
    { h with ring := h.ring.store, pending := nofun, deferred := fun hd => absurd hd hdeferred }
  refine Account.Parts.pendingBegin stored (fun hp => ?_) m
  exact { stored with pending := fun hs => by rw [hp] at hs; cases hs }

/-- The release with the deferred close that it begins (R120, R123). -/
theorem Account.Parts.release {a : Account} (h : a.Parts) (m : Moment) (q : Count) : (a.release m q).1.Parts := by
  have kept (hd : a.deferredClose = true → a.policy = .hold ∧ (a.ring.release q).full = true
      ∧ (a.ring.release q).writing = false) : { a with ring := a.ring.release q }.Parts :=
    { h with ring := h.ring.release q, pending := fun hp => Ring.release_writing (h.pending hp) q, deferred := hd }
  unfold Account.release
  dsimp only
  split
  · refine Account.Parts.deferredBegin ?_ (fun hd => kept fun hd' => nomatch hd.symm.trans hd') m
    exact { h with
      ring := h.ring.release q
      pending := fun hp => Ring.release_writing (h.pending hp) q
      deferred := nofun }
  · rename_i hlen
    refine kept fun hd => ?_
    obtain ⟨hhold, hfull, hw⟩ := h.deferred hd
    unfold Ring.full Ring.writing at *
    rw [Ring.release_records_of_length hlen]
    exact ⟨hhold, hfull, hw⟩

/-! ### The posting -/

theorem Account.Parts.book {a : Account} (h : a.Parts) (r : ResultRecord) : (a.book r).Parts :=
  { h.mapBins (fun b => b.book r.figures) (fun b => b.book_code _) fun b hb => b.book_value_le _ hb with
    merged := h.merged
    interruptions := h.interruptions }

theorem Account.Parts.count {a : Account} (h : a.Parts) (r : ResultRecord) : (a.count r).1.Parts := by
  unfold Account.count
  split
  · exact { h with merged := h.merged, interruptions := h.interruptions }
  · exact (h.book r).evaluate _

theorem Account.Parts.post {a : Account} (h : a.Parts) (m : Moment) (r : ResultRecord) : (a.post m r).1.Parts := by
  unfold Account.post
  split
  · exact h
  · split
    · exact (h.closeBegin m _).count r
    · exact h.count r

/-! ### Flags and requests -/

theorem Account.Parts.markTimer {a : Account} (h : a.Parts) (second : Count) : (a.markTimer second).Parts := by
  unfold Account.markTimer
  split
  · exact { h with }
  · exact h

theorem Account.Parts.setFreeRunning {a : Account} (h : a.Parts) : a.setFreeRunning.Parts := { h with }

theorem Account.Parts.markTimeSet {a : Account} (h : a.Parts) : a.markTimeSet.Parts := { h with }

theorem Account.Parts.interrupt {a : Account} (h : a.Parts) : a.interrupt.Parts :=
  { h with interruptions := raiseHeld_le _ _ }

theorem Account.Parts.warm {a : Account} (h : a.Parts) (marked : Bool) : (a.warm marked).Parts := by
  cases marked
  · exact { h.interrupt with }
  · exact { h with }

theorem Account.Parts.clearBins {a : Account} (h : a.Parts) : a.clearBins.Parts :=
  { h.mapBins Bin.zeroed (fun _ => rfl) fun _ _ => Nat.zero_le _ with
    merged := h.merged
    interruptions := h.interruptions }

/-- The visibility of a bin is free of the law (R87). -/
theorem Account.Parts.withRights {a : Account} (h : a.Parts) (rights : Rights) (visibility : List Word) :
    (a.withRights rights visibility).Parts := by
  have hlen : (a.withRights rights visibility).bins.length = a.bins.length := by simp [Account.withRights]
  refine { h with some_bin := ?_, bin_count := ?_, codes := ?_, bin := ?_, watch := ?_ }
  · rw [hlen]
    exact h.some_bin
  · rw [hlen]
    exact h.bin_count
  · have hcodes : (a.withRights rights visibility).bins.map (·.code) = a.bins.map (·.code) := by
      apply List.ext_getElem?
      simp [Account.withRights, Function.comp_def]
    rw [hcodes]
    exact h.codes
  · intro b hb
    obtain ⟨⟨x, k⟩, hx, rfl⟩ := List.mem_map.mp hb
    exact h.bin x (List.fst_mem_of_mem_zipIdx hx)
  · rw [hlen]
    exact h.watch

theorem Account.Parts.trim {a : Account} (h : a.Parts) (n : Nat) : (a.trim n).Parts :=
  h.mapWatches _ fun _ => ⟨rfl, rfl, rfl⟩

theorem Account.Parts.setWatch {a : Account} (h : a.Parts) {f : WatchFields} {n : Nat} {w : Watch}
    (hw : f.watchFor n a = some w) : { a with watches := a.watches.setIfInBounds f.watch w }.Parts := by
  refine { h with watch := fun v hv => ?_ }
  unfold WatchFields.watchFor at hw
  split at hw
  · split at hw <;> cases hw
    rename_i hgood
    obtain ⟨_, hbin, hle, _⟩ := hgood
    rw [Vector.toList_setIfInBounds] at hv
    obtain hv | rfl := List.mem_or_eq_of_mem_set hv
    · exact h.watch v hv
    · exact ⟨hle, hbin⟩
  · cases hw

/-- The account that an accepted OPEN_ACCOUNT opens (R85, R86), its list holding as many codes as the bin count says. -/
theorem OpenFields.account_parts {f : OpenFields} (hcount : f.codes.length = f.binCount) (m : Moment)
    (hv : f.invalid = false) (hd : f.repeats = false) : (f.account m).Parts := by
  have hlen : (f.account m).bins.length = f.binCount := by simp [OpenFields.account, hcount]
  have hmap : (f.account m).bins.map (·.code) = f.codes := by
    apply List.ext_getElem?
    simp [OpenFields.account, Function.comp_def]
  simp only [OpenFields.invalid, Bool.or_eq_false_iff, beq_eq_false_iff_ne, decide_eq_false_iff_not, Nat.not_lt,
    List.any_eq_false, decide_eq_true_eq] at hv
  obtain ⟨⟨⟨⟨⟨⟨⟨hzero, hmax⟩, hcode⟩, hmask⟩, hperiod⟩, _⟩, _⟩, _⟩ := hv
  refine ⟨by omega, by omega, ?_, fun b hb => ?_, hmask, hperiod, Nat.zero_le _, ?_, fun w hw => ?_, ?_, nofun, nofun⟩
  · rw [hmap]
    simpa [OpenFields.repeats] using hd
  · obtain ⟨⟨c, k⟩, hc, rfl⟩ := List.mem_map.mp hb
    exact ⟨hcode c (List.fst_mem_of_mem_zipIdx hc), Nat.zero_le _⟩
  · show (if m.interrupted then 1 else 0) ≤ Config.count16Max
    split <;> decide
  · have : w = Watch.initial := by
      simpa [OpenFields.account] using hw
    subst this
    exact ⟨le_rfl, by rw [hlen]; exact Nat.pos_of_ne_zero hzero⟩
  · have hring : (f.account m).ring = { records := [], emptySlot := 0 } := rfl
    rw [hring]
    exact ⟨Nat.zero_le _, Nat.succ_pos 31, by simp, .nil⟩

theorem openFields_codes_length (r : Request) : (openFields r).codes.length = (openFields r).binCount := by
  simp [openFields, Request.codes]

end Sys2Proof.Machine

/-! What a command can do to the ports beside their pending sets: it leaves those sets and keeps the laws of the ports.
The commands that change a pending set are set apart by name. -/

namespace Sys2Proof.Machine

/-! ### The law of a port by parts -/

/-- The laws of a port, each under its own name (R136, R151, R170, R179, R182, R183). -/
structure PortState.Parts (x : PortState) : Prop where
  sorted : x.pendingSet.Pairwise fun e f => e.key < f.key
  entries : ∀ e ∈ x.pendingSet, e.account < 24 ∧ e.watch < 4 ∧ e.count ≤ Config.crossingMax
    ∧ e.sinceCount ≤ Config.crossingMax
  exponent : x.settings.exponent ≤ Config.maxExponent
  edges : x.edges &&& ~~~edgeMask = 0
  fault : x.fault.overflow = true → x.fault.content.isSome = true
  served : ∀ t, x.transaction = some t → x.select = .low { format := t.format, exponent := t.exponent }
  reset : x.resetAsserted = true → ∀ r, x.select ≠ .low r

theorem PortState.law_iff (x : PortState) : x.Law ↔ x.Parts :=
  ⟨fun ⟨h1, h2, h3, h4, h5, h6, h7⟩ => ⟨h1, h2, h3, h4, h5, h6, h7⟩,
    fun ⟨h1, h2, h3, h4, h5, h6, h7⟩ => ⟨h1, h2, h3, h4, h5, h6, h7⟩⟩

theorem State.portLaw_iff (s : State) : s.PortLaw ↔ ∀ p, (s.port p).Parts :=
  forall_congr' fun p => (s.port p).law_iff

/-! ### Changes of one port -/

/-- Port state `y` has the pending set of `x` and keeps its laws. -/
structure PortState.Calm (x y : PortState) : Prop where
  pendingSet : y.pendingSet = x.pendingSet
  law : x.Parts → y.Parts

theorem PortState.Calm.refl (x : PortState) : x.Calm x := ⟨rfl, id⟩

theorem PortState.Calm.trans {x y z : PortState} (h : x.Calm y) (k : y.Calm z) : x.Calm z :=
  ⟨k.pendingSet.trans h.pendingSet, fun p => k.law (h.law p)⟩

/-- An event of the seven that are edges (R179). -/
def Event.isEdge (e : Event) : Bool := e.mask &&& ~~~edgeMask == 0

theorem PortState.raise_calm (x : PortState) (e : Event) (he : e.isEdge = true) : x.Calm (x.raise e) := by
  refine ⟨rfl, fun h => { h with edges := ?_ }⟩
  have hedges := h.edges
  have hmask : e.mask &&& ~~~edgeMask = 0 := by simpa [Event.isEdge] using he
  show (x.edges ||| e.mask) &&& ~~~edgeMask = 0
  rw [BitVec.and_or_distrib_right, hedges, hmask]
  rfl

theorem PortState.writeFault_calm (x : PortState) (f : FaultInfo) : x.Calm (x.writeFault f) := by
  refine ⟨rfl, fun h => { h with fault := ?_ }⟩
  unfold PortState.writeFault
  dsimp only
  split
  · exact fun _ => by assumption
  · exact fun _ => rfl

/-- The words moved in the transaction `t` of a port, served in the same readout as before (R170, R182). -/
structure PortState.Shifted (x : PortState) (t : Transaction) (y : PortState) : Prop where
  calm : (∃ u, x.transaction = some u ∧ u.format = t.format ∧ u.exponent = t.exponent) → x.Calm y
  transaction : ∃ u, y.transaction = some u ∧ u.format = t.format ∧ u.exponent = t.exponent

/-! ### Changes of the ports of the part -/

/-- `t` has the pending sets of `s` and keeps the laws of its ports. -/
def Calm (s t : State) : Prop := ∀ p, (s.port p).Calm (t.port p)

theorem Calm.refl (s : State) : Calm s s := fun _ => .refl _

theorem Calm.trans {s t u : State} (h : Calm s t) (k : Calm t u) : Calm s u := fun p => (h p).trans (k p)

/-- What leaves the ports is calm. -/
theorem Calm.of_ports {s t : State} (h : t.ports = s.ports) : Calm s t := fun p => by
  rw [show t.port p = s.port p from congrArg (·.get p) h]
  exact .refl _

theorem State.setFreeze_calm (s : State) (u : FreezeUnit) : Calm s (s.setFreeze u) := .of_ports rfl

theorem State.setJoint_calm (s : State) (j : Joint) : Calm s (s.setJoint j) := .of_ports rfl

theorem State.setTime_calm (s : State) (t : TimeBase) : Calm s (s.setTime t) := .of_ports rfl

theorem State.setCalc_calm (s : State) (i : Incomer) (c : Calc) : Calm s (s.setCalc i c) := .of_ports rfl

theorem State.drawn_calm (s : State) : Calm s s.drawn := .of_ports rfl

theorem State.updPort_calm (s : State) (p : Port) (f : PortState → PortState) (h : (s.port p).Calm (f (s.port p))) :
    Calm s (s.updPort p f) := fun q => by
  rw [State.updPort_port]
  split
  · rename_i e
    rw [e]
    exact h
  · exact .refl _

theorem State.raise_calm (s : State) (p : Port) (e : Event) (he : e.isEdge = true) : Calm s (s.raise p e) :=
  s.updPort_calm p _ (PortState.raise_calm _ e he)

theorem State.raiseIf_calm (s : State) (b : Bool) (p : Port) (e : Event) (he : e.isEdge = true) :
    Calm s (s.raiseIf b p e) := by
  cases b
  · exact .refl s
  · exact s.raise_calm p e he

theorem State.raiseAll_calm (s : State) (e : Event) (he : e.isEdge = true) : Calm s (s.raiseAll e) :=
  ((s.raise_calm .U e he).trans (State.raise_calm _ .F e he)).trans (State.raise_calm _ .C e he)

theorem State.writeFault_calm (s : State) (p : Port) (f : FaultInfo) : Calm s (s.writeFault p f) :=
  s.updPort_calm p _ (PortState.writeFault_calm _ f)

theorem State.respond_calm (s : State) (p : Port) (code : Byte) (r : Response) : Calm s (s.respond p code r) :=
  s.updPort_calm p _ ⟨rfl, fun h => { h with }⟩

theorem State.take_calm (s : State) (p : Port) (code : Nat) (act : Request → Response × State)
    (h : ∀ r, Calm s (act r).2) : Calm s (s.take p code act) := by
  obtain he | ⟨r, _, _, he⟩ := s.take_cases p code act <;> rw [he]
  · exact .refl s
  · exact (h r).trans (State.respond_calm _ p _ _)

theorem State.onAccount_calm (s : State) (p : Port) (n : Nat) (need : Need) (act : Account → Response × State)
    (h : ∀ a, Calm s (act a).2) : Calm s (s.onAccount p n need act).2 := by
  obtain ⟨i, he⟩ | ⟨a, _, _, he⟩ := s.onAccount_cases p n need act <;> rw [he]
  · exact s.writeFault_calm p i
  · exact h a

/-! ### The freeze unit -/

theorem State.grant_calm (s : State) (b : Fin 2) (p : Port) (n : Nat) : Calm s (s.grant b p n) :=
  (s.drawn_calm.trans (State.setFreeze_calm _ _)).trans (State.raise_calm _ p .freezeGranted rfl)

theorem State.reloadIfEmpty_calm (s : State) : Calm s s.reloadIfEmpty := by
  unfold State.reloadIfEmpty
  split
  · exact .of_ports rfl
  · exact .refl s

theorem State.freeBuffer_calm (s : State) (b : Fin 2) : Calm s (s.freeBuffer b) := by
  unfold State.freeBuffer
  split
  · exact .of_ports rfl
  · exact ((s.setFreeze_calm _).trans (State.grant_calm _ b _ _)).trans
      (State.reloadIfEmpty_calm _)

theorem State.giveUp_calm (s : State) (p : Port) : Calm s (s.giveUp p) := by
  unfold State.giveUp
  split
  · exact s.freeBuffer_calm _
  · split
    · exact (s.setFreeze_calm _).trans (State.reloadIfEmpty_calm _)
    · exact .refl s

theorem State.reclaim_calm (s : State) (b : Fin 2) (p : Port) : Calm s (s.reclaim b p) :=
  (s.raise_calm p .reclaimed rfl).trans (State.freeBuffer_calm _ b)

theorem State.expireSlot_calm (s : State) (b : Fin 2) : Calm s (s.expireSlot b) := by
  unfold State.expireSlot
  split
  · split
    · exact .of_ports rfl
    · exact s.reclaim_calm b _
  · exact .refl s

theorem State.countSlots_calm (s : State) : Calm s s.countSlots := by
  unfold State.countSlots
  split
  · exact .refl s
  · exact ((s.setFreeze_calm _).trans (State.expireSlot_calm _ 0)).trans
      (State.expireSlot_calm _ 1)

theorem State.settleReclaim_calm (s : State) (b : Fin 2) : Calm s (s.settleReclaim b) := by
  unfold State.settleReclaim
  split
  · split
    · dsimp only
      split
      · exact .of_ports rfl
      · exact (s.setFreeze_calm _).trans (State.reclaim_calm _ b _)
    · exact .refl s
  · exact .refl s

theorem State.endFreezeRead_calm (s : State) (p : Port) : Calm s (s.endFreezeRead p) := by
  unfold State.endFreezeRead
  split
  · exact s.settleReclaim_calm _
  · exact .refl s

/-! ### The joint table unit and the second tick -/

theorem State.lapseNow_calm (s : State) : Calm s s.lapseNow :=
  ((s.setJoint_calm _).trans (State.raise_calm _ .U .lapsed rfl)).trans
    (State.raise_calm _ .F .lapsed rfl)

theorem State.countLapse_calm (s : State) : Calm s s.countLapse := by
  unfold State.countLapse
  split
  · split
    · exact s.lapseNow_calm
    · exact .of_ports rfl
  · exact .refl s

theorem State.secondTick_calm (s : State) : Calm s s.secondTick :=
  (((s.setTime_calm _).trans (State.countLapse_calm _)).trans
    (State.countSlots_calm _)).trans (Calm.of_ports (State.mapAccounts_ports _ _))

theorem State.commitIncomer_ports (s : State) (i : Incomer) (was now : Bool) :
    (s.commitIncomer i was now).ports = s.ports := by
  have freed (es : List WaitEntry) (t : State) : (es.foldl State.freeBank t).ports = t.ports := by
    induction es generalizing t with
    | nil => rfl
    | cons e es ih =>
      rw [List.foldl_cons, ih]
      unfold State.freeBank
      split <;> rfl
  unfold State.commitIncomer
  split
  · rfl
  · cases now
    · exact freed _ _
    · rfl

theorem State.commit_calm (s : State) (t : Table) : Calm s (s.commit t) := by
  have hports : (s.commitBoth t).clearSources.ports = s.ports := by
    show (s.commitBoth t).ports = s.ports
    rw [State.commitBoth, State.commitIncomer_ports, State.commitIncomer_ports, State.setJoint_ports]
  exact Calm.trans (.of_ports hports) (State.raiseAll_calm _ .committed rfl)

/-! ### The measurement path -/

theorem State.handOff_calm (s : State) (r : ResultRecord) : Calm s (s.handOff r) :=
  Calm.trans (t := { s.setCalc r.incomer { s.calc r.incomer with latest := some r } with
    posting := s.posting.arrive r }) (.of_ports rfl) (State.raiseAll_calm _ .result rfl)

theorem State.takeEntry_calm (s : State) : Calm s s.takeEntry := by
  unfold State.takeEntry
  split
  · split
    · exact .of_ports rfl
    · rename_i e rest _ _ _
      exact Calm.trans (t := { s with waitList := rest }.setCalc e.incomer _) (.of_ports rfl) (State.handOff_calm _ _)
  · exact .refl s

theorem State.takeEntries_calm (n : Nat) (s : State) : Calm s (State.takeEntries n s) := by
  induction n generalizing s with
  | zero => exact .refl s
  | succ n ih => exact s.takeEntry_calm.trans (ih _)

theorem State.settleEngine_calm (s : State) : Calm s s.settleEngine := s.takeEntries_calm _

theorem State.closeWindow_calm (s : State) (i : Incomer) (w : OpenWindow) (c : WindowCause) (tick : Nat) :
    Calm s (s.closeWindow i w c tick) :=
  Calm.trans (t := { s.setAssembler i _ with waitList := _ }) (.of_ports rfl) (State.settleEngine_calm _)

theorem State.takeOpeningMarker_calm (s : State) (i : Incomer) (row : Row) : Calm s (s.takeOpeningMarker i row) := by
  unfold State.takeOpeningMarker
  split
  · exact .of_ports rfl
  · exact .refl s

theorem State.deliver_calm (s : State) (i : Incomer) (d : Delivery) : Calm s (s.deliver i d) := by
  unfold State.deliver
  dsimp only
  split
  · exact .of_ports rfl
  · exact .of_ports rfl
  · split
    · exact s.takeOpeningMarker_calm i _
    · split
      · exact (s.closeWindow_calm i _ _ _).trans (State.takeOpeningMarker_calm _ i _)
      · split
        · exact (s.closeWindow_calm i _ _ _).trans (State.takeOpeningMarker_calm _ i _)
        · exact .of_ports rfl
  · exact .refl s

theorem State.freeBank_ports (s : State) (e : WaitEntry) : (s.freeBank e).ports = s.ports := by
  unfold State.freeBank
  split <;> rfl

theorem State.complete_calm (s : State) (f : Flight) : Calm s (s.complete f) := by
  have handed (c : Calc) (r : ResultRecord) (x : Engine) :
      Calm s { ((s.setCalc f.entry.incomer c).handOff r).freeBank f.entry with engine := x } :=
    ((s.setCalc_calm _ c).trans (State.handOff_calm _ r)).trans
      (Calm.of_ports (State.freeBank_ports _ f.entry))
  exact handed _ _ _

/-! ### Transactions -/

/-- The words of a transaction moved at port `p`: its own port goes on in the same readout, and the other ports stand. -/
structure State.Shifted (s : State) (p : Port) (t : Transaction) (u : State) : Prop where
  others : ∀ q, q ≠ p → u.port q = s.port q
  port : (s.port p).Shifted t (u.port p)

/-- The port goes on in a transaction of the same readout, with its data output and its two flags as they come. -/
theorem PortState.shifted (x : PortState) (t u : Transaction) (hf : u.format = t.format) (he : u.exponent = t.exponent)
    (w : Word) (o o' l l' : Bool) : x.Shifted t { x with
      transaction := some u, dataOut := w, overrun := o, overrunSince := o', limited := l, limitedSince := l' } := by
  refine ⟨fun ⟨v, hv, hvf, hve⟩ => ⟨rfl, fun h => { h with served := ?_ }⟩, u, rfl, hf, he⟩
  rintro u' ⟨⟩
  show x.select = .low { format := u.format, exponent := u.exponent }
  rw [hf, he, ← hvf, ← hve]
  exact h.served v hv

theorem State.shift_shifted (s : State) (p : Port) {t u : Transaction} (hf : u.format = t.format)
    (he : u.exponent = t.exponent) (w : Word) : s.Shifted p t (s.shift p u w) := by
  refine ⟨fun q hq => by simp [State.shift, hq], ?_⟩
  have hport : (s.shift p u w).port p = { s.port p with transaction := some u, dataOut := w } := by simp [State.shift]
  rw [hport]
  exact (s.port p).shifted t u hf he w _ _ _ _

theorem State.shiftZero_shifted (s : State) (p : Port) {t u : Transaction} (hf : u.format = t.format)
    (he : u.exponent = t.exponent) : s.Shifted p t (s.shiftZero p u) := s.shift_shifted p (u := u.step) hf he 0

theorem State.shiftPast_shifted (s : State) (p : Port) {t u : Transaction} (hf : u.format = t.format)
    (he : u.exponent = t.exponent) : s.Shifted p t (s.shiftPast p u) := by
  refine ⟨fun q hq => by simp [State.shiftPast, State.shift, hq], ?_⟩
  have hport : (s.shiftPast p u).port p = { s.port p with
      transaction := some u.step, dataOut := 0, overrun := true, overrunSince := true } := by
    simp [State.shiftPast, State.shift, PortState.setOverrun]
  rw [hport]
  exact (s.port p).shifted t u.step hf he 0 _ _ _ _

theorem State.shiftOut_port (s : State) (p : Port) (t : Transaction) (w : OutWord) : (s.shiftOut p t w).port p =
    { s.port p with
      transaction := some t.step, dataOut := w.word, limited := (s.port p).limited || w.saturated,
      limitedSince := (s.port p).limitedSince || w.saturated } := by
  cases h : w.saturated <;> simp [State.shiftOut, State.shift, PortState.setLimited, h]

theorem State.shiftOut_shifted (s : State) (p : Port) {t u : Transaction} (hf : u.format = t.format)
    (he : u.exponent = t.exponent) (w : OutWord) : s.Shifted p t (s.shiftOut p u w) := by
  refine ⟨fun q hq => by simp [State.shiftOut, State.shift, hq], ?_⟩
  rw [State.shiftOut_port]
  exact (s.port p).shifted t u.step hf he w.word _ _ _ _

theorem State.readItem_shifted (s : State) (p : Port) (t : Transaction) : s.Shifted p t (s.readItem p t) := by
  unfold State.readItem
  split
  · exact s.shiftZero_shifted p rfl rfl
  · split
    · exact s.shiftOut_shifted p rfl rfl _
    · exact s.shiftPast_shifted p rfl rfl

theorem State.pop_shifted (s : State) (p : Port) {t u : Transaction} (hf : u.format = t.format)
    (he : u.exponent = t.exponent) : s.Shifted p t (s.pop p u) := by
  unfold State.pop
  split
  · rename_i w ws _
    exact s.shiftOut_shifted p (t := t) (u := { u with latch := ws }) hf he w
  · exact s.shiftPast_shifted p hf he

/-- A fault written first leaves the transaction as it stands (R146, R151). -/
theorem State.Shifted.of_txFault {s : State} {p : Port} {t x : Transaction} {f : FaultInfo} {u : State}
    (h : (s.txFault p x f).Shifted p t u) : s.Shifted p t u := by
  unfold State.txFault at h
  split at h
  · exact h
  · refine ⟨fun q hq => (h.others q hq).trans ?_, fun hx => ?_, h.port.transaction⟩
    · simp [State.writeFault, hq]
    · have hport : (s.writeFault p f).port p = (s.port p).writeFault f := by simp [State.writeFault]
      have := h.port.calm
      rw [hport] at this
      exact ((s.port p).writeFault_calm f).trans (this hx)

theorem State.failEntry_shifted (s : State) (p : Port) (t : Transaction) (f : FaultInfo) :
    s.Shifted p t (s.failEntry p t f) :=
  State.Shifted.of_txFault (State.shiftZero_shifted _ p (t := t) (u := t.fail) rfl rfl)

theorem State.failOffset_shifted (s : State) (p : Port) (t : Transaction) (w : Word) :
    s.Shifted p t (s.failOffset p t w) :=
  State.Shifted.of_txFault (State.shift_shifted _ p (t := t) (u := { t.fail with offset := some w }) rfl rfl 0)

theorem State.binFirst_shifted (s : State) (p : Port) (t : Transaction) : s.Shifted p t (s.binFirst p t) := by
  unfold State.binFirst
  dsimp only
  split
  · exact s.failEntry_shifted p t _
  · split
    · exact s.failEntry_shifted p t _
    · split
      · exact s.shiftPast_shifted p rfl rfl
      · split
        · exact State.Shifted.of_txFault (State.pop_shifted _ p rfl rfl)
        · exact s.pop_shifted p rfl rfl

theorem State.binsWord_shifted (s : State) (p : Port) (t : Transaction) (w : Word) :
    s.Shifted p t (s.binsWord p t w) := by
  unfold State.binsWord
  split
  · exact s.shiftZero_shifted p rfl rfl
  · split
    · unfold State.binsOffset
      split
      · exact s.failOffset_shifted p t w
      · exact s.shift_shifted p (t := t) (u := { t with offset := some w, entry := w.toNat }) rfl rfl 0
    · split
      · split
        · exact s.shiftPast_shifted p rfl rfl
        · exact s.binFirst_shifted p t
      · obtain ⟨b, hb, _⟩ := s.binsOn_eq t
        rw [hb]
        exact s.pop_shifted p rfl rfl

theorem State.walkFirst_shifted (s : State) (p : Port) (t : Transaction) : s.Shifted p t (s.walkFirst p t) := by
  unfold State.walkFirst
  dsimp only
  split
  · exact s.shiftPast_shifted p rfl rfl
  · split
    · exact s.failEntry_shifted p t _
    · split
      · exact s.failEntry_shifted p t _
      · split
        · exact s.shiftPast_shifted p rfl rfl
        · exact s.pop_shifted p rfl rfl

theorem State.walkOn_eq (s : State) (t : Transaction) : s.walkOn t = { t with seek := (s.walkOn t).seek } := by
  unfold State.walkOn
  split <;> rfl

theorem State.walkWord_shifted (s : State) (p : Port) (t : Transaction) (w : Word) :
    s.Shifted p t (s.walkWord p t w) := by
  unfold State.walkWord
  split
  · exact s.shiftZero_shifted p rfl rfl
  · split
    · unfold State.walkOffset
      split
      · exact s.shift_shifted p (t := t) (u := { t with offset := some w, seek := _ }) rfl rfl 0
      · exact s.failOffset_shifted p t w
    · split
      · exact s.walkFirst_shifted p t
      · rw [State.walkOn_eq]
        exact s.pop_shifted p rfl rfl

theorem State.freezeWord_shifted (s : State) (p : Port) (t : Transaction) : s.Shifted p t (s.freezeWord p t) := by
  unfold State.freezeWord
  split
  · exact s.shiftZero_shifted p rfl rfl
  · split
    · unfold State.copyFirst
      split
      · exact s.failEntry_shifted p t _
      · exact s.pop_shifted p rfl rfl
    · exact s.pop_shifted p rfl rfl

theorem State.takeOffset_shifted (s : State) (p : Port) (t : Transaction) (w : Word) :
    s.Shifted p t (s.takeOffset p t w) :=
  s.shift_shifted p (t := t) (u := { t with offset := some w, pointer := w.toNat }) rfl rfl 0

theorem State.draftWord_shifted (s : State) (p : Port) (t : Transaction) (w : Word) :
    s.Shifted p t (s.draftWord p t w) := by
  unfold State.draftWord
  split
  · exact s.takeOffset_shifted p t w
  · split
    · have hport (q : Port) : (s.writeDraft p t.pointer w).port q = s.port q := by
        unfold State.writeDraft
        split <;> rfl
      have h := (s.writeDraft p t.pointer w).shiftZero_shifted p (t := t) (u := t) rfl rfl
      exact ⟨fun q hq => (h.others q hq).trans (hport q), hport p ▸ h.port⟩
    · exact s.shiftPast_shifted p rfl rfl

theorem State.requestWord_shifted (s : State) (p : Port) (t : Transaction) (w : Word) :
    s.Shifted p t (s.requestWord p t w) := by
  unfold State.requestWord
  split
  · split
    · exact s.shiftZero_shifted p (t := t) (u := { t with words := t.words ++ [w] }) rfl rfl
    · exact s.shiftPast_shifted p rfl rfl
  · exact s.shiftZero_shifted p rfl rfl

/-- Clearing edge indications keeps the laws of a port (R180). -/
theorem PortState.statusShifted_calm (x : PortState) (t : Transaction) :
    x.Calm (x.statusShifted t) ∧ (x.statusShifted t).transaction = x.transaction := by
  unfold PortState.statusShifted
  split
  · split
    · refine ⟨⟨rfl, fun h => { h with edges := ?_ }⟩, rfl⟩
      have hedges := h.edges
      unfold PortState.clearEdges
      dsimp only
      rw [BitVec.and_assoc, BitVec.and_comm (~~~_) (~~~edgeMask), ← BitVec.and_assoc, hedges]
      simp
    · split
      · exact ⟨⟨rfl, fun h => { h with }⟩, rfl⟩
      · exact ⟨.refl x, rfl⟩
  · exact ⟨.refl x, rfl⟩

theorem State.openWord_shifted (s : State) (p : Port) (t : Transaction) (w : Word) :
    s.Shifted p t (s.openWord p t w) := by
  unfold State.openWord
  split
  · exact s.takeOffset_shifted p t w
  · split
    · have h := s.readItem_shifted p t
      obtain ⟨hcalm, htx⟩ := ((s.readItem p t).port p).statusShifted_calm t
      refine ⟨fun q hq => ?_, fun hx => ?_, ?_⟩
      · rw [State.updPort_port, if_neg hq]
        exact h.others q hq
      · rw [State.updPort_port, if_pos rfl]
        exact (h.port.calm hx).trans hcalm
      · rw [State.updPort_port, if_pos rfl, htx]
        exact h.port.transaction
    · exact s.readItem_shifted p t

/-- A word of the transaction that stands is calm. -/
theorem State.Shifted.to_calm {s : State} {p : Port} {t : Transaction} {u : State} (h : s.Shifted p t u)
    (ht : (s.port p).transaction = some t) : Calm s u := fun q => by
  by_cases hq : q = p
  · rw [hq]
    exact h.port.calm ⟨t, ht, rfl, rfl⟩
  · rw [h.others q hq]
    exact .refl _

/-! #### The head word, the fall and the rise -/

theorem State.enter_calm (s : State) (p : Port) (t : Transaction)
    (hs : (s.port p).select = .low { format := t.format, exponent := t.exponent }) : Calm s (s.enter p t) := by
  refine s.updPort_calm p _ ⟨rfl, fun h => { h with served := ?_ }⟩
  rintro u ⟨⟩
  exact hs

theorem State.failHead_calm (s : State) (p : Port) (r : Readout) (k : TxKind) (w : Word) (f : FaultInfo)
    (hs : (s.port p).select = .low r) : Calm s (s.failHead p r k w f) := by
  refine (s.writeFault_calm p f).trans (State.enter_calm _ p _ ?_)
  have hsel : ((s.writeFault p f).port p).select = (s.port p).select := by simp [State.writeFault, PortState.writeFault]
  rw [hsel, hs]
  rfl

theorem State.openHead_calm (s : State) (p : Port) (r : Readout) (w : Word) (hs : (s.port p).select = .low r) :
    Calm s (s.openHead p r w) := by
  have entered : Calm s (s.drawn.enter p { Transaction.begin r .openItem w true with
      latch := plainWords (openItemWords s p (decodeHead w)) }) :=
    s.drawn_calm.trans (State.enter_calm _ p _ (by rw [State.drawn_port, hs]; rfl))
  unfold State.openHead
  dsimp only
  split
  · exact entered.trans (State.updPort_calm _ p _ ⟨rfl, fun h => { h with }⟩)
  · exact entered

theorem State.faultHead_calm (s : State) (p : Port) (r : Readout) (w : Word) (hs : (s.port p).select = .low r) :
    Calm s (s.faultHead p r w) :=
  (s.drawn_calm.trans (State.enter_calm _ p _ (by rw [State.drawn_port, hs]; rfl))).trans
    (State.updPort_calm _ p _ ⟨rfl, fun h => { h with }⟩)

theorem State.accountHead_calm (s : State) (p : Port) (r : Readout) (w : Word) (hs : (s.port p).select = .low r) :
    Calm s (s.accountHead p r w) := by
  unfold State.accountHead
  dsimp only
  split
  · exact s.failHead_calm p r _ w _ hs
  · split
    · exact s.drawn_calm.trans (State.enter_calm _ p _ (by rw [State.drawn_port, hs]; rfl))
    · exact s.failHead_calm p r _ w _ hs

theorem State.entryHead_calm (s : State) (p : Port) (k : TxKind) (r : Readout) (w : Word)
    (hs : (s.port p).select = .low r) : Calm s (s.entryHead p k r w) := by
  unfold State.entryHead
  split
  · exact s.failHead_calm p r _ w _ hs
  · exact s.enter_calm p _ hs

theorem State.freezeHead_calm (s : State) (p : Port) (r : Readout) (w : Word) (hs : (s.port p).select = .low r) :
    Calm s (s.freezeHead p r w) := by
  unfold State.freezeHead
  split
  · exact s.failHead_calm p r _ w _ hs
  · exact s.enter_calm p _ hs

theorem State.close_calm (s : State) (p : Port) : Calm s (s.close p) :=
  s.updPort_calm p _ ⟨rfl, fun h => { h with served := by rintro t ⟨⟩, reset := fun _ _ => nofun }⟩

theorem State.fall_calm (s : State) (p : Port) (hr : (s.port p).resetAsserted = false)
    (ht : (s.port p).transaction = none) : Calm s (s.fall p) :=
  s.updPort_calm p _ ⟨rfl, fun h => { h with
    served := fun _ e => nomatch ht.symm.trans e
    reset := fun e => nomatch hr.symm.trans e }⟩

theorem State.ignoreWord_calm (s : State) (p : Port) : Calm s (s.ignoreWord p) :=
  s.drawn_calm.trans (State.updPort_calm _ p _ ⟨rfl, fun h => { h with }⟩)

/-- Under port reset no transaction stands, and none begins (R183). -/
theorem PortState.heldOff_calm (x : PortState) (e : TxEvent) (hr : x.resetAsserted = true) : x.Calm (x.heldOff e) := by
  obtain ⟨y, he, hy⟩ := x.heldOff_eq e
  rw [he]
  refine ⟨rfl, fun h => { h with served := fun t ht => ?_, reset := fun _ r => ?_ }⟩
  · exact absurd (h.served t ht) (h.reset hr _)
  · obtain rfl | rfl | rfl := hy
    · exact h.reset hr r
    · nofun
    · nofun

/-- The events of a transaction are calm when its head word, its words and its end are. -/
theorem State.transact_calm (s : State) (p : Port) (k : TxKind) (e : TxEvent) (head : Readout → Word → State)
    (word : Transaction → Word → State) (rise : Transaction → State)
    (hh : ∀ r w, (s.port p).select = .low r → Calm s (head r w)) (hw : ∀ t w, s.Shifted p t (word t w))
    (hr : ∀ t, (s.port p).transaction = some t → Calm s (rise t)) : Calm s (s.transact p k e head word rise) := by
  obtain ⟨hreset, he⟩ | he | ⟨hreset, hnone, he⟩ | ⟨t, w, _, ht, _, he⟩ | ⟨t, _, ht, _, he⟩ :=
    s.transact_cases p k e head word rise <;> rw [he]
  · exact s.updPort_calm p _ ((s.port p).heldOff_calm e hreset)
  · exact .refl s
  · obtain he | ⟨_, _, he⟩ | ⟨r, w, _, hsel, _, he⟩ | ⟨_, he⟩ | ⟨_, he⟩ := s.between_cases p k e head <;> rw [he]
    · exact .refl s
    · exact s.fall_calm p hreset hnone
    · exact hh r w hsel
    · exact s.close_calm p
    · exact s.ignoreWord_calm p
  · exact (hw t w).to_calm ht
  · exact hr t ht

theorem State.judgeRecord_calm (s : State) (p : Port) (t : Transaction) : Calm s (s.judgeRecord p t) := by
  have answered (r : Response) : Calm s (s.answerAt p t.item r) := s.updPort_calm p _ ⟨rfl, fun h => { h with }⟩
  unfold State.judgeRecord
  split
  · exact answered _
  · split
    · exact answered _
    · split
      · exact answered _
      · exact s.updPort_calm p _ ⟨rfl, fun h => { h with }⟩

theorem PortState.faultRead_calm (x : PortState) (t : Transaction) : x.Calm (x.faultRead t) := by
  unfold PortState.faultRead
  split
  · exact ⟨rfl, fun h => { h with fault := nofun }⟩
  · exact .refl x

end Sys2Proof.Machine

/-! How a command changes the accounts and the pending sets together, and the laws that rest on it: the account law
(R80 to R83, R115, R122, R129), the route law (R135, R136, R138, R139) and the port law (R136, R137). -/

namespace Sys2Proof.Machine

/-! ### Pending sets (R136, R137) -/

/-- A crossing enters its own entry and leaves the others. -/
theorem mem_recordCrossing {n k : Nat} {c : Crossing} {es : List PendingEntry} {e : PendingEntry}
    (h : e ∈ recordCrossing n k c es) : e.account = n ∧ e.watch = k ∨ e ∈ es := by
  induction es with
  | nil =>
    obtain rfl := List.mem_singleton.mp h
    exact .inl ⟨rfl, rfl⟩
  | cons x xs ih =>
    unfold recordCrossing at h
    split at h
    · rename_i hx
      obtain rfl | h := List.mem_cons.mp h
      · exact .inl (by simpa [PendingEntry.isOf, PendingEntry.record] using hx)
      · exact .inr (List.mem_cons_of_mem _ h)
    · split at h
      · obtain rfl | h := List.mem_cons.mp h
        · exact .inl ⟨rfl, rfl⟩
        · exact .inr h
      · obtain rfl | h := List.mem_cons.mp h
        · exact .inr List.mem_cons_self
        · exact (ih h).imp_right (List.mem_cons_of_mem _)

theorem recordCrossing_sorted {n k : Nat} {c : Crossing} {es : List PendingEntry} (hk : k < 4)
    (hw : ∀ e ∈ es, e.watch < 4) (hs : es.Pairwise fun e f => e.key < f.key) :
    (recordCrossing n k c es).Pairwise fun e f => e.key < f.key := by
  induction es with
  | nil => exact List.pairwise_singleton _ _
  | cons x xs ih =>
    obtain ⟨hx, hxs⟩ := List.pairwise_cons.mp hs
    unfold recordCrossing
    split
    · exact List.pairwise_cons.mpr ⟨hx, hxs⟩
    · rename_i hnot
      split
      · rename_i hlt
        refine List.pairwise_cons.mpr ⟨fun y hy => ?_, hs⟩
        obtain rfl | hy := List.mem_cons.mp hy
        · exact hlt
        · exact Nat.lt_trans hlt (hx y hy)
      · rename_i hge
        refine List.pairwise_cons.mpr ⟨fun y hy => ?_, ih (fun e he => hw e (List.mem_cons_of_mem _ he)) hxs⟩
        obtain ⟨hn, hyk⟩ | hy := mem_recordCrossing hy
        · have := hw x List.mem_cons_self
          simp only [PendingEntry.isOf, Bool.and_eq_true, beq_iff_eq, not_and] at hnot
          unfold PendingEntry.key at *
          omega
        · exact hx y hy

/-- The counts of an entry are held at 255 (R136). -/
def PendingEntry.Held (e : PendingEntry) : Prop := e.count ≤ Config.crossingMax ∧ e.sinceCount ≤ Config.crossingMax

theorem recordCrossing_held {n k : Nat} {c : Crossing} {es : List PendingEntry} (h : ∀ e ∈ es, e.Held) :
    ∀ e ∈ recordCrossing n k c es, e.Held := by
  have new : (PendingEntry.new n k c).Held := ⟨Nat.succ_pos 254, Nat.succ_pos 254⟩
  induction es with
  | nil => exact fun e he => List.mem_singleton.mp he ▸ new
  | cons x xs ih =>
    obtain ⟨hx, hxs⟩ := List.forall_mem_cons.mp h
    unfold recordCrossing
    split
    · exact List.forall_mem_cons.mpr ⟨⟨raiseHeld_le _ _, raiseHeld_le _ _⟩, hxs⟩
    · split
      · exact List.forall_mem_cons.mpr ⟨new, h⟩
      · exact List.forall_mem_cons.mpr ⟨hx, ih hxs⟩

/-- The port after a crossing of account `n` that its watch may route to it (R135). -/
def PortState.enroll (p : Port) (n : Nat) (x : PortState) (c : Crossed) : PortState :=
  if c.route.get p then { x with pendingSet := recordCrossing n c.watch c.kind x.pendingSet } else x

theorem State.routeTo_port (s : State) (n : Nat) (x : Crossed) (p q : Port) :
    (s.routeTo n x p).port q = if q = p then (s.port p).enroll p n x else s.port q := by
  unfold State.routeTo PortState.enroll
  by_cases hr : x.route.get p = true <;> by_cases hq : q = p <;> simp [hr, hq]

/-- The crossings of an account reach each port by its own route, in order (R135). -/
theorem State.route_port (s : State) (n : Nat) (xs : List Crossed) (p : Port) :
    (s.route n xs).port p = xs.foldl (PortState.enroll p n) (s.port p) := by
  induction xs generalizing s with
  | nil => rfl
  | cons x xs ih =>
    rw [State.route, ih, List.foldl_cons]
    cases p <;> simp [State.routeTo_port]

theorem PortState.Parts.enroll {x : PortState} (h : x.Parts) {p : Port} {n : Nat} {c : Crossed} (hn : n < 24)
    (hc : c.watch < 4) : (x.enroll p n c).Parts := by
  unfold PortState.enroll
  split
  · refine { h with sorted := recordCrossing_sorted hc (fun e he => ?_) h.sorted, entries := fun e he => ?_ }
    · obtain ⟨_, hw, _⟩ := h.entries e he
      exact hw
    · have hold : ∀ f ∈ x.pendingSet, f.Held := fun f hf => by
        obtain ⟨_, _, hheld⟩ := h.entries f hf
        exact hheld
      obtain ⟨haccount, hwatch⟩ | hmem := mem_recordCrossing he
      · exact ⟨haccount ▸ hn, hwatch ▸ hc, recordCrossing_held hold e he⟩
      · exact h.entries e hmem
  · exact h

theorem PortState.Parts.enrolled {x : PortState} (h : x.Parts) {p : Port} {n : Nat} {cs : List Crossed} (hn : n < 24)
    (hc : ∀ c ∈ cs, c.watch < 4) : (cs.foldl (PortState.enroll p n) x).Parts := by
  induction cs generalizing x with
  | nil => exact h
  | cons c cs ih =>
    obtain ⟨hfirst, hrest⟩ := List.forall_mem_cons.mp hc
    exact ih (h.enroll hn hfirst) hrest

/-- An entry of a port after a route stood before it or is of a crossing routed to the port. -/
theorem PortState.mem_enrolled {x : PortState} {p : Port} {n : Nat} {cs : List Crossed} {e : PendingEntry}
    (h : e ∈ (cs.foldl (PortState.enroll p n) x).pendingSet) :
    (∃ c ∈ cs, c.route.get p = true ∧ e.account = n ∧ e.watch = c.watch) ∨ e ∈ x.pendingSet := by
  induction cs generalizing x with
  | nil => exact .inr h
  | cons c cs ih =>
    obtain ⟨d, hd, hrest⟩ | h := ih h
    · exact .inl ⟨d, List.mem_cons_of_mem _ hd, hrest⟩
    · unfold PortState.enroll at h
      split at h
      · rename_i hroute
        obtain ⟨hn, hw⟩ | h := mem_recordCrossing h
        · exact .inl ⟨c, List.mem_cons_self, hroute, hn, hw⟩
        · exact .inr h
      · exact .inr h

/-! ### What a watch tells (R135) -/

/-- Where a watch looks and whom it tells. -/
def Watch.place (w : Watch) : Nat × PerPort Bool := (w.bin, w.route)

/-- Account `b` has the rights, the hidden bins and the places of the watches of `a`. -/
structure SameAccess (a b : Account) : Prop where
  rights : b.rights = a.rights
  hides : ∀ i, b.hides i = a.hides i
  watches : ∀ k : Nat, (b.watches[k]?).map Watch.place = (a.watches[k]?).map Watch.place

theorem SameAccess.refl (a : Account) : SameAccess a a := ⟨rfl, fun _ => rfl, fun _ => rfl⟩

theorem SameAccess.trans {a b c : Account} (h : SameAccess a b) (k : SameAccess b c) : SameAccess a c :=
  ⟨k.rights.trans h.rights, fun i => (k.hides i).trans (h.hides i), fun i => (k.watches i).trans (h.watches i)⟩

theorem SameAccess.symm {a b : Account} (h : SameAccess a b) : SameAccess b a :=
  ⟨h.rights.symm, fun i => (h.hides i).symm, fun i => (h.watches i).symm⟩

/-- What leaves rights, bins and watches leaves the access. -/
theorem SameAccess.of_eq {a b : Account} (hr : b.rights = a.rights) (hb : b.bins = a.bins)
    (hw : b.watches = a.watches) : SameAccess a b :=
  ⟨hr, fun i => by rw [Account.hides, hb, Account.hides], fun k => by rw [hw]⟩

/-- What has the access of an account that left rights, bins and watches of `a`. -/
theorem SameAccess.of_base {a b c : Account} (h : SameAccess b c) (hr : b.rights = a.rights) (hb : b.bins = a.bins)
    (hw : b.watches = a.watches) : SameAccess a c := (SameAccess.of_eq hr hb hw).trans h

theorem SameAccess.qualified {a b : Account} (h : SameAccess a b) (n i : Nat) (p : Port) :
    b.qualified n i p = a.qualified n i p := by
  unfold Account.qualified Account.rightOf
  rw [h.rights, h.hides]

/-- A watch of the one is a watch of the other at the same place. -/
theorem SameAccess.watch {a b : Account} (h : SameAccess a b) {k : Nat} {w : Watch} (hw : b.watches[k]? = some w) :
    ∃ v, a.watches[k]? = some v ∧ v.bin = w.bin ∧ v.route = w.route := by
  have hk := h.watches k
  rw [hw] at hk
  obtain ⟨v, hv, hplace⟩ := Option.map_eq_some_iff.mp hk.symm
  exact ⟨v, hv, congrArg Prod.fst hplace, congrArg Prod.snd hplace⟩

/-- Every port in a route of the account is qualified for the watch (R130, R138). -/
def Account.RoutesKnow (a : Account) (n : Nat) : Prop :=
  ∀ (k : Nat) (w : Watch) (p : Port), a.watches[k]? = some w → w.route.get p = true → a.qualified n w.bin p = true

/-- Port `p` is qualified for watch `k` of the account (R135). -/
def Account.Tells (a : Account) (n k : Nat) (p : Port) : Prop :=
  ∃ w, a.watches[k]? = some w ∧ a.qualified n w.bin p = true

theorem SameAccess.routesKnow {a b : Account} (h : SameAccess a b) {n : Nat} (ha : a.RoutesKnow n) :
    b.RoutesKnow n := by
  intro k w p hw hp
  obtain ⟨v, hv, hbin, hroute⟩ := h.watch hw
  rw [h.qualified, ← hbin]
  exact ha k v p hv (hroute ▸ hp)

theorem SameAccess.tells {a b : Account} (h : SameAccess a b) {n k : Nat} {p : Port} (ha : a.Tells n k p) :
    b.Tells n k p := by
  obtain ⟨v, hv, hq⟩ := ha
  obtain ⟨w, hw, hbin, _⟩ := h.symm.watch hv
  exact ⟨w, hw, by rwa [h.qualified, hbin]⟩

theorem State.routeLaw_iff (s : State) : s.RouteLaw ↔ (∀ n a, s.account n = some a → a.RoutesKnow n)
    ∧ ∀ p, ∀ e ∈ (s.port p).pendingSet, ∃ a, s.account e.account = some a ∧ a.Tells e.account e.watch p := by
  constructor
  · rintro ⟨hroutes, hentries⟩
    refine ⟨fun n a ha k w p => hroutes n a k w p ha, fun p e he => ?_⟩
    obtain ⟨a, w, ha, hw, hq⟩ := hentries p e he
    exact ⟨a, ha, w, hw, hq⟩
  · rintro ⟨hroutes, hentries⟩
    refine ⟨fun n a k w p ha => hroutes n a ha k w p, fun p e he => ?_⟩
    obtain ⟨a, ha, w, hw, hq⟩ := hentries p e he
    exact ⟨a, w, ha, hw, hq⟩

/-! ### Changes of one account -/

/-- Account `a` becomes `r.1` with the crossings `r.2`: its laws and its access stand, and each crossing is of one of its
watches, by that watch's route. -/
structure Account.Becomes (a : Account) (r : Account × List Crossed) : Prop where
  law : a.Parts → r.1.Parts
  access : SameAccess a r.1
  crossed : ∀ x ∈ r.2, ∃ w, a.watches[x.watch]? = some w ∧ w.route = x.route

theorem Account.Becomes.refl (a : Account) : a.Becomes (a, []) := ⟨id, .refl a, nofun⟩

/-- One change and then another, whose crossings follow those of the first. -/
theorem Account.Becomes.trans {a : Account} {r q : Account × List Crossed} (h : a.Becomes r) (k : r.1.Becomes q) :
    a.Becomes (q.1, r.2 ++ q.2) := by
  refine ⟨fun ha => k.law (h.law ha), h.access.trans k.access, fun x hx => ?_⟩
  obtain hx | hx := List.mem_append.mp hx
  · exact h.crossed x hx
  · obtain ⟨w, hw, hroute⟩ := k.crossed x hx
    obtain ⟨v, hv, _, hsame⟩ := h.access.watch hw
    exact ⟨v, hv, hsame.trans hroute⟩

/-- A change without crossings. -/
theorem Account.Becomes.plain {a b : Account} (hl : a.Parts → b.Parts) (ha : SameAccess a b) : a.Becomes (b, []) :=
  ⟨hl, ha, nofun⟩

/-- A change without crossings comes first. -/
theorem Account.Becomes.after {a b : Account} {r : Account × List Crossed} (h : b.Becomes r)
    (hl : a.Parts → b.Parts) (ha : SameAccess a b) : a.Becomes r := (Account.Becomes.plain hl ha).trans h

theorem Account.evaluate_access (a : Account) (k : Option Booked) : SameAccess a (a.evaluate k).1 := by
  refine ⟨rfl, fun _ => rfl, fun i => ?_⟩
  have hplace (w : Watch) (c : Option Crossing) : (w.cross c).place = w.place := by rw [Watch.cross_eq]; rfl
  cases h : a.watches[i]? with
  | none => simp [Account.evaluate, mapVec_getElem?, h]
  | some w => simp [Account.evaluate, mapVec_getElem?, h, hplace]

theorem Account.evaluate_becomes (a : Account) (k : Option Booked) : a.Becomes (a.evaluate k) := by
  refine ⟨fun h => h.evaluate k, a.evaluate_access k, fun x hx => ?_⟩
  obtain ⟨⟨w, i⟩, hw, hcross⟩ := List.mem_filterMap.mp hx
  obtain ⟨c, _, rfl⟩ := Option.map_eq_some_iff.mp hcross
  refine ⟨w, ?_, rfl⟩
  rw [← Vector.getElem?_toList]
  exact List.mem_zipIdx_iff_getElem?.mp hw

/-- Bins changed one by one, each with its visibility, hide what they hid. -/
theorem hides_map (a b : Account) (f : Bin → Bin) (hb : b.bins = a.bins.map f)
    (hf : ∀ x, (f x).ownerOnly = x.ownerOnly) (i : Nat) : b.hides i = a.hides i := by
  unfold Account.hides
  rw [hb, List.getElem?_map]
  cases a.bins[i]? <;> simp [hf]

theorem Account.carryOut_access (a : Account) (m : Moment) (c : CloseCause) : SameAccess a (a.carryOut m c) := by
  refine ⟨rfl, fun i => ?_, fun _ => rfl⟩
  cases hm : a.mode with
  | reset => exact hides_map a _ Bin.zeroed (by simp [Account.carryOut, hm]) (fun _ => rfl) i
  | running => exact hides_map a _ id (by simp [Account.carryOut, hm]) (fun _ => rfl) i

theorem Account.closeBegin_becomes (a : Account) (m : Moment) (c : CloseCause) : a.Becomes (a.closeBegin m c) := by
  refine ⟨fun h => h.closeBegin m c, ?_, ?_⟩
  · obtain ⟨_, _, he⟩ | ⟨_, _, he⟩ | ⟨_, _, _, he⟩ | ⟨_, _, _, he⟩ | ⟨_, _, _, he⟩ := a.closeBegin_cases m c <;>
      rw [he]
    · exact .of_eq rfl rfl rfl
    · exact .of_eq rfl rfl rfl
    · exact .of_eq rfl rfl rfl
    · exact (a.carryOut_access m c).trans (Account.evaluate_access _ _)
    · exact a.carryOut_access m c
  · obtain ⟨_, _, he⟩ | ⟨_, _, he⟩ | ⟨_, _, _, he⟩ | ⟨_, _, _, he⟩ | ⟨_, _, _, he⟩ := a.closeBegin_cases m c <;>
      rw [he]
    · nofun
    · nofun
    · nofun
    · exact ((a.carryOut m c).evaluate_becomes none).crossed
    · nofun

/-- The pending close of an account in which its mark may outlast the WRITING record begins (R119). -/
theorem Account.pendingBegin_access (a : Account) (m : Moment) :
    SameAccess a (a.pendingBegin m).1
      ∧ ∀ x ∈ (a.pendingBegin m).2, ∃ w, a.watches[x.watch]? = some w ∧ w.route = x.route := by
  unfold Account.pendingBegin
  split
  · have h := Account.closeBegin_becomes { a with pendingClose := none } m ‹_›
    exact ⟨h.access.of_base rfl rfl rfl, h.crossed⟩
  · exact ⟨.refl a, nofun⟩

theorem Account.pendingBegin_becomes (a : Account) (m : Moment) : a.Becomes (a.pendingBegin m) :=
  ⟨fun h => h.clearPending.pendingBegin (fun _ => h) m, (a.pendingBegin_access m).1, (a.pendingBegin_access m).2⟩

theorem Account.written_becomes {a : Account} (hw : a.ring.writing = true) (m : Moment) :
    a.Becomes ({ a with ring := a.ring.store }.pendingBegin m) := by
  obtain ⟨haccess, hcrossed⟩ := { a with ring := a.ring.store }.pendingBegin_access m
  exact ⟨fun h => h.written hw m, haccess.of_base rfl rfl rfl, hcrossed⟩

theorem Account.deferredBegin_becomes (a : Account) (m : Moment) : a.Becomes (a.deferredBegin m) := by
  unfold Account.deferredBegin
  split
  · exact (Account.closeBegin_becomes _ m .deferred).after (fun h => h.clearDeferred) (.of_eq rfl rfl rfl)
  · exact .refl a

theorem Account.release_becomes (a : Account) (m : Moment) (q : Count) : a.Becomes (a.release m q) := by
  refine ⟨fun h => h.release m q, ?_, ?_⟩
  · unfold Account.release
    dsimp only
    split
    · exact (Account.deferredBegin_becomes { a with ring := a.ring.release q } m).access.of_base rfl rfl rfl
    · exact .of_eq rfl rfl rfl
  · unfold Account.release
    dsimp only
    split
    · exact (Account.deferredBegin_becomes { a with ring := a.ring.release q } m).crossed
    · nofun

theorem Bin.book_ownerOnly (b : Bin) (f : Figures) : (b.book f).ownerOnly = b.ownerOnly := by
  unfold Bin.book Bin.add
  split
  · split <;> rfl
  · rfl

theorem Account.count_becomes (a : Account) (r : ResultRecord) : a.Becomes (a.count r) := by
  unfold Account.count
  split
  · exact .plain (fun h => { h with merged := h.merged, interruptions := h.interruptions }) (.of_eq rfl rfl rfl)
  · refine (Account.evaluate_becomes _ _).after (fun h => h.book r) ⟨rfl, fun i => ?_, fun _ => rfl⟩
    exact hides_map a _ (fun b => b.book r.figures) rfl (fun b => b.book_ownerOnly _) i

theorem Account.post_becomes (a : Account) (m : Moment) (r : ResultRecord) : a.Becomes (a.post m r) := by
  unfold Account.post
  split
  · exact .refl a
  · split
    · exact (a.closeBegin_becomes m _).trans (Account.count_becomes _ r)
    · exact a.count_becomes r

theorem Account.clearBins_becomes (a : Account) : a.Becomes (a.clearBins.evaluate none) := by
  refine (Account.evaluate_becomes _ _).after (fun h => h.clearBins) ⟨rfl, fun i => ?_, fun _ => rfl⟩
  exact hides_map a _ Bin.zeroed rfl (fun _ => rfl) i

theorem Account.timer_becomes (a : Account) (m : Moment) :
    a.Becomes ({ a with timerDue := false }.closeBegin m .timer) :=
  (Account.closeBegin_becomes { a with timerDue := false } m .timer).after (fun h => { h with }) (.of_eq rfl rfl rfl)

/-! ### Steps of the accounts and the pending sets -/

/-- `t` has the accounts and the pending sets of `s` and keeps the laws of its ports. -/
structure Quiet (s t : State) : Prop where
  calm : Calm s t
  accounts : t.accounts = s.accounts

theorem Quiet.refl (s : State) : Quiet s s := ⟨.refl s, rfl⟩

theorem Quiet.account {s t : State} (h : Quiet s t) (n : Nat) : t.account n = s.account n := by
  rw [State.account, h.accounts, State.account]

theorem State.respond_quiet (s : State) (p : Port) (code : Byte) (r : Response) : Quiet s (s.respond p code r) :=
  ⟨s.respond_calm p code r, rfl⟩

/-- The command is a request, a transaction or a port reset of port `p`. -/
def OfPort (c : Instr) (p : Port) : Prop :=
  (∃ k, c.request = some (p, k)) ∨ (∃ k e, c.transaction = some (p, k, e)) ∨ c = .portReset p
    ∨ c = .portResetDeassertion p

/-- What a command can do to the accounts and the pending sets: nothing, a flag or a mark in every account, a change of
one account with its crossings, the requests that open, guard, watch and free a slot, and the events that empty pending
sets. -/
inductive AccountsStep (c : Instr) (s : State) : State → Prop
  | quiet {t : State} (h : Quiet s t) : AccountsStep c s t
  | each {t : State} (f : Account → Account) (hf : ∀ a : Account, a.Becomes (f a, []))
      (hc : ∀ p, OfPort c p → c = .setTime .U ∧ f = Account.markTimeSet) (h : Quiet (s.mapAccounts f) t) :
      AccountsStep c s t
  | one {u t : State} (n : Nat) (a : Account) (r : Account × List Crossed) (hu : Quiet s u)
      (ha : s.account n = some a) (hr : a.Becomes r) (hc : ∀ p, OfPort c p → ownerOf n = p)
      (h : Quiet (u.setEvaluated n r) t) : AccountsStep c s t
  | opened {t : State} (f : OpenFields) (m : Moment) (hcount : f.codes.length = f.binCount)
      (hfree : s.account f.slot = none) (hslot : f.slot < 24) (hv : f.invalid = false) (hd : f.repeats = false)
      (hc : ∀ p, OfPort c p → ownerOf f.slot = p) (h : Quiet (s.setAccount f.slot (some (f.account m))) t) :
      AccountsStep c s t
  | rights {t : State} (n : Nat) (a : Account) (x : Rights) (v : List Word) (ha : s.account n = some a)
      (hc : ∀ p, OfPort c p → ownerOf n = p)
      (h : Quiet ((s.setAccount n (some ((a.withRights x v).trim n))).dropUnqualified n ((a.withRights x v).trim n)) t) :
      AccountsStep c s t
  | watch {t : State} (n : Nat) (a : Account) (f : WatchFields) (w : Watch) (ha : s.account n = some a)
      (hw : f.watchFor n a = some w) (hc : ∀ p, OfPort c p → ownerOf n = p)
      (h : Quiet ((s.setAccount n (some { a with watches := a.watches.setIfInBounds f.watch w })).dropPendingAll
        fun e => e.isOf n f.watch) t) : AccountsStep c s t
  | freed {t : State} (n : Nat) (a : Account) (ha : s.account n = some a) (hc : ∀ p, OfPort c p → ownerOf n = p)
      (h : Quiet ((s.setAccount n none).dropPendingAll fun e => e.account == n) t) : AccountsStep c s t
  | latched {t : State} (p : Port) (r : Readout) (w : Word) (hs : (s.port p).select = .low r)
      (h : Quiet (s.pendingHead p r w) t) : AccountsStep c s t
  | emptied {t : State} (p : Port) (x : Transaction)
      (h : Quiet ((s.close p).updPort p fun ps => { ps with pendingSet := s.pendingAfter p x }) t) : AccountsStep c s t
  | reset {u t : State} (p : Port) (hu : Quiet s u) (h : Quiet (u.updPort p PortState.reset) t) : AccountsStep c s t
  | warm {t : State} (hc : ∀ p, ¬OfPort c p) (h : Quiet s.warmStart t) : AccountsStep c s t
  | cold {t : State} (hc : ∀ p, ¬OfPort c p) (h : Quiet s.coldStart t) : AccountsStep c s t

end Sys2Proof.Machine

/-! Every command is one of the steps of the accounts and the pending sets. -/

namespace Sys2Proof.Machine

theorem Quiet.trans {s t u : State} (h : Quiet s t) (k : Quiet t u) : Quiet s u :=
  ⟨h.calm.trans k.calm, k.accounts.trans h.accounts⟩

/-- A quiet end changes nothing of a step. -/
theorem AccountsStep.then {c : Instr} {s t u : State} (h : AccountsStep c s t) (k : Quiet t u) : AccountsStep c s u := by
  cases h with
  | quiet h => exact .quiet (h.trans k)
  | each f hf hc h => exact .each f hf hc (h.trans k)
  | one n a r hu ha hr hc h => exact .one n a r hu ha hr hc (h.trans k)
  | opened f m hcount hfree hslot hv hd hc h => exact .opened f m hcount hfree hslot hv hd hc (h.trans k)
  | rights n a x v ha hc h => exact .rights n a x v ha hc (h.trans k)
  | watch n a f w ha hw hc h => exact .watch n a f w ha hw hc (h.trans k)
  | freed n a ha hc h => exact .freed n a ha hc (h.trans k)
  | latched p r w hs h => exact .latched p r w hs (h.trans k)
  | emptied p x h => exact .emptied p x (h.trans k)
  | reset p hu h => exact .reset p hu (h.trans k)
  | warm hc h => exact .warm hc (h.trans k)
  | cold hc h => exact .cold hc (h.trans k)

theorem AccountsStep.same (c : Instr) (s : State) : AccountsStep c s s := .quiet (.refl s)

/-- A command belongs to at most one port. -/
theorem OfPort.unique {c : Instr} {p q : Port} (h : OfPort c p) (k : OfPort c q) : p = q := by
  cases c <;> simp_all [OfPort, Instr.request, Instr.transaction]

/-- The request of a command is of its own port. -/
theorem OfPort.of_request {c : Instr} {p : Port} {k : Nat} (h : c.request = some (p, k)) : OfPort c p := .inl ⟨k, h⟩

theorem AccountsStep.of_take {c : Instr} {s : State} {p : Port} {code : Nat} {act : Request → Response × State}
    (h : ∀ r, AccountsStep c s (act r).2) : AccountsStep c s (s.take p code act) := by
  obtain he | ⟨r, _, _, he⟩ := s.take_cases p code act <;> rw [he]
  · exact .same c s
  · exact (h r).then (State.respond_quiet _ p _ _)

/-- An account request that passes comes from the account's owner (R143). -/
theorem AccountsStep.of_onAccount {c : Instr} {s : State} {p : Port} {n : Nat} {act : Account → Response × State}
    (hp : OfPort c p)
    (h : ∀ a, s.account n = some a → (∀ q, OfPort c q → ownerOf n = q) → AccountsStep c s (act a).2) :
    AccountsStep c s (s.onAccount p n .ownership act).2 := by
  obtain ⟨i, he⟩ | ⟨a, ha, hperm, he⟩ := s.onAccount_cases p n .ownership act <;> rw [he]
  · exact .quiet ⟨s.writeFault_calm p i, rfl⟩
  · refine h a ha fun q hq => ?_
    have howner : p = ownerOf n := by simpa [Account.permits] using hperm
    rw [← howner, hp.unique hq]

/-! ### Second ticks (R108, R113) -/

theorem State.countLapse_accounts (s : State) : s.countLapse.accounts = s.accounts :=
  (s.countLapse_leaves (f := { joint := true }) rfl).accounts rfl

theorem State.countLapse_time (s : State) : s.countLapse.time = s.time :=
  (s.countLapse_leaves (f := { joint := true }) rfl).time rfl

theorem State.countSlots_leaves (s : State) : Leaves { freeze := true } s s.countSlots :=
  s.countSlots_freezeAndPorts.leaves rfl

theorem State.secondTick_accounts (s : State) :
    s.secondTick.accounts = mapVec (Option.map (Account.markTimer (s.time.second + 1))) s.accounts := by
  have hslots := (s.setTime s.time.advance).countLapse.countSlots_leaves
  have haccounts : ((s.setTime s.time.advance).countLapse.countSlots).accounts = s.accounts := by
    rw [hslots.accounts rfl, State.countLapse_accounts]
    rfl
  have htime : ((s.setTime s.time.advance).countLapse.countSlots).time = s.time.advance := by
    rw [hslots.time rfl, State.countLapse_time]
    rfl
  unfold State.secondTick
  dsimp only
  rw [State.mapAccounts, haccounts, htime]
  rfl

theorem vector_ext_getElem? {α : Type} {n : Nat} {v w : Vector α n} (h : ∀ k : Nat, v[k]? = w[k]?) : v = w :=
  Vector.ext fun i hi => Option.some_inj.mp (by
    rw [← Vector.getElem?_eq_getElem, ← Vector.getElem?_eq_getElem]
    exact h i)

theorem mapVec_some_comp (f g : Account → Account) (v : Vector (Option Account) 24) :
    mapVec (Option.map f) (mapVec (Option.map g) v) = mapVec (Option.map fun a => f (g a)) v := by
  apply vector_ext_getElem?
  simp [Function.comp_def]

/-- A second tick after a change of every account (R107 to R109, R113). -/
theorem AccountsStep.tick {c : Instr} {s u : State} (g : Account → Account) (hg : ∀ a : Account, a.Becomes (g a, []))
    (hc : ∀ p, ¬OfPort c p) (hu : Quiet (s.mapAccounts g) u) : AccountsStep c s u.secondTick := by
  refine .each (fun a => (g a).markTimer (u.time.second + 1)) (fun a => ?_) (fun p hp => absurd hp (hc p)) ?_
  · refine (Account.Becomes.plain (fun h => h.markTimer _) ?_).after (hg a).law (hg a).access
    unfold Account.markTimer
    split
    · exact .of_eq rfl rfl rfl
    · exact .refl _
  · refine ⟨Calm.trans (.of_ports rfl) (hu.calm.trans u.secondTick_calm), ?_⟩
    rw [State.secondTick_accounts, hu.accounts]
    exact mapVec_some_comp _ g s.accounts

theorem mapAccounts_id (s : State) : s.mapAccounts id = s := by
  have : mapVec (Option.map id) s.accounts = s.accounts := by
    apply vector_ext_getElem?
    simp
  rw [State.mapAccounts, this]

theorem AccountsStep.tick_only {c : Instr} {s u : State} (hc : ∀ p, ¬OfPort c p) (hu : Quiet s u) :
    AccountsStep c s u.secondTick :=
  .tick id (fun a => .refl a) hc (by rwa [mapAccounts_id])

/-! ### Every command -/

theorem AccountsStep.of_calm {c : Instr} {s t : State} (ha : t.accounts = s.accounts) (h : Calm s t) :
    AccountsStep c s t := .quiet ⟨h, ha⟩

/-- A transaction that leaves the accounts is calm when its head word, its words and its end are. -/
theorem AccountsStep.of_transact {c : Instr} {s : State} {p : Port} {k : TxKind} {e : TxEvent}
    {head : Readout → Word → State} {word : Transaction → Word → State} {rise : Transaction → State}
    (ha : (s.transact p k e head word rise).accounts = s.accounts)
    (hh : ∀ r w, (s.port p).select = .low r → Calm s (head r w)) (hw : ∀ t w, s.Shifted p t (word t w))
    (hr : ∀ t, (s.port p).transaction = some t → Calm s (rise t)) :
    AccountsStep c s (s.transact p k e head word rise) := .of_calm ha (s.transact_calm p k e head word rise hh hw hr)

/-- An evaluated change of one account at an event of no port. -/
theorem AccountsStep.of_event {c : Instr} {s u : State} {n : Nat} {a : Account} {r : Account × List Crossed}
    (hc : ∀ p, ¬OfPort c p) (hu : Quiet s u) (ha : s.account n = some a) (hr : a.Becomes r) :
    AccountsStep c s (u.setEvaluated n r) :=
  .one n a r hu ha hr (fun p hp => absurd hp (hc p)) (.refl _)

theorem State.raiseRecords_calm (s : State) (n : Nat) (a : Account) : Calm s (s.raiseRecords n a) :=
  ((s.raiseIf_calm _ .U .record rfl).trans (State.raiseIf_calm _ _ .F .record rfl)).trans
    (State.raiseIf_calm _ _ .C .record rfl)

theorem exec_accountsStep_transaction {c : Instr} {s t : State} (h : exec c s = .next t)
    (hc : c.transaction.isSome = true) : AccountsStep c s t := by
  have hleaves := Leaves.of_exec h
  cases c with
  | requestRecord p e =>
    cases h
    exact .of_transact (hleaves.accounts rfl) (fun r w hs => s.enter_calm p _ hs) (s.requestWord_shifted p)
      fun t _ => (s.close_calm p).trans (State.judgeRecord_calm _ p t)
  | draftWrite p e =>
    cases h
    exact .of_transact (hleaves.accounts rfl) (fun r w hs => s.enter_calm p _ hs) (s.draftWord_shifted p)
      fun _ _ => s.close_calm p
  | statusRead p e =>
    cases h
    exact .of_transact (hleaves.accounts rfl) (s.openHead_calm p) (s.openWord_shifted p) fun _ _ => s.close_calm p
  | pendingSetRead p e =>
    cases h
    obtain ⟨_, he⟩ | he | ⟨hreset, hnone, he⟩ | ⟨t, w, _, ht, _, he⟩ | ⟨t, _, ht, _, he⟩ :=
      s.transact_cases p .pendingSet e (s.pendingHead p) (fun t _ => s.readItem p t)
        (fun t => (s.close p).updPort p fun ps => { ps with pendingSet := s.pendingAfter p t }) <;> rw [he]
    · exact .of_calm rfl (s.updPort_calm p _ ((s.port p).heldOff_calm e ‹_›))
    · exact .same _ s
    · obtain he | ⟨_, _, he⟩ | ⟨r, w, _, hsel, _, he⟩ | ⟨_, he⟩ | ⟨_, he⟩ :=
        s.between_cases p .pendingSet e (s.pendingHead p) <;> rw [he]
      · exact .same _ s
      · exact .of_calm rfl (s.fall_calm p hreset hnone)
      · exact .latched p r w hsel (.refl _)
      · exact .of_calm rfl (s.close_calm p)
      · exact .of_calm rfl (s.ignoreWord_calm p)
    · exact .of_calm ((s.readItem_portsOnly p t).leaves {} |>.accounts rfl) ((s.readItem_shifted p t).to_calm ht)
    · exact .emptied p t (.refl _)
  | faultRecordRead p e =>
    cases h
    exact .of_transact (hleaves.accounts rfl) (s.faultHead_calm p) (fun t _ => s.readItem_shifted p t)
      fun t _ => (s.close_calm p).trans (State.updPort_calm _ p _ (PortState.faultRead_calm _ t))
  | accountRead p e =>
    cases h
    exact .of_transact (hleaves.accounts rfl) (s.accountHead_calm p) (fun t _ => s.readItem_shifted p t)
      fun _ _ => s.close_calm p
  | binsRead p e =>
    cases h
    exact .of_transact (hleaves.accounts rfl) (s.entryHead_calm p .bins) (s.binsWord_shifted p)
      fun _ _ => s.close_calm p
  | ringWalk p e =>
    cases h
    exact .of_transact (hleaves.accounts rfl) (s.entryHead_calm p .history) (s.walkWord_shifted p)
      fun _ _ => s.close_calm p
  | freezeRead p e =>
    cases h
    exact .of_transact (hleaves.accounts rfl) (s.freezeHead_calm p) (fun t _ => s.freezeWord_shifted p t)
      fun _ _ => (s.close_calm p).trans (State.endFreezeRead_calm _ p)
  | badFraming p e =>
    cases h
    exact .of_transact (hleaves.accounts rfl) (fun r w => s.failHead_calm p r _ w _)
      (fun t _ => s.shift_shifted p (t := t) (u := t.step) rfl rfl _) fun _ _ => s.close_calm p
  | wrongDirectionAccess p e =>
    cases h
    exact .of_transact (hleaves.accounts rfl) (fun r w => s.failHead_calm p r _ w _)
      (fun t _ => s.shiftZero_shifted p rfl rfl) fun _ _ => s.close_calm p
  | absentItemAccess p e =>
    cases h
    exact .of_transact (hleaves.accounts rfl) (fun r w => s.failHead_calm p r _ w _)
      (fun t _ => s.shiftZero_shifted p rfl rfl) fun _ _ => s.close_calm p
  | _ => cases hc

theorem exec_accountsStep {c : Instr} {s t : State} (h : exec c s = .next t) : AccountsStep c s t := by
  have hleaves := Leaves.of_exec h
  cases c with
  | frameArrival i bytes =>
    refine .of_calm (hleaves.accounts rfl) ?_
    simp only [exec, execFrameArrival] at h
    split at h
    · cases h
      exact .refl s
    · split at h <;> cases h
      · exact Calm.trans (t := s.setReceiver i _) (.of_ports rfl) (State.deliver_calm _ i _)
      · exact .of_ports rfl
  | silenceExpiry i =>
    refine .of_calm (hleaves.accounts rfl) ?_
    simp only [exec, execSilenceExpiry] at h
    split at h <;> cases h
    · exact .of_ports rfl
    · exact .refl s
  | timeLimitClose i =>
    refine .of_calm (hleaves.accounts rfl) ?_
    simp only [exec, execTimeLimitClose] at h
    split at h <;> cases h
    · exact s.closeWindow_calm i _ _ _
    · exact .refl s
  | transformBegin =>
    refine .of_calm (hleaves.accounts rfl) ?_
    simp only [exec, execTransformBegin] at h
    split at h <;> cases h
    · exact s.takeEntry_calm
    · exact .refl s
  | invalidEntryLeave =>
    refine .of_calm (hleaves.accounts rfl) ?_
    simp only [exec, execInvalidEntryLeave] at h
    split at h <;> cases h
    · exact s.takeEntry_calm.trans (State.settleEngine_calm _)
    · exact .refl s
  | transformCompletion =>
    refine .of_calm (hleaves.accounts rfl) ?_
    simp only [exec, execTransformCompletion] at h
    split at h <;> cases h
    · exact .refl s
    · exact (s.complete_calm _).trans (State.settleEngine_calm _)
  | postingTake =>
    cases h
    exact .of_calm rfl (.of_ports rfl)
  | posting =>
    simp only [exec, execPosting] at h
    split at h <;> cases h
    · exact .same _ s
    · refine AccountsStep.then (t := s.postTo _ _) ?_ ⟨.of_ports rfl, rfl⟩
      unfold State.postTo
      split
      · exact .same _ s
      · exact .of_event (by simp [OfPort, Instr.request, Instr.transaction]) (.refl s) ‹_› (Account.post_becomes _ _ _)
  | secondPulse =>
    have hc : ∀ p, ¬OfPort .secondPulse p := by simp [OfPort, Instr.request, Instr.transaction]
    simp only [exec, execSecondPulse] at h
    split at h
    · cases h
      exact .same _ s
    · cases h
      exact .of_calm rfl (.of_ports rfl)
    · split at h <;> cases h
      · exact .tick_only hc ⟨.of_ports rfl, rfl⟩
      · exact .of_calm rfl (.of_ports rfl)
  | holdoverEntry =>
    have hc : ∀ p, ¬OfPort .holdoverEntry p := by simp [OfPort, Instr.request, Instr.transaction]
    simp only [exec, execHoldoverEntry] at h
    split at h <;> cases h
    · exact .tick Account.setFreeRunning (fun a => .plain (fun h => h.setFreeRunning) (.of_eq rfl rfl rfl)) hc
        ⟨.of_ports rfl, rfl⟩
    · exact .same _ s
  | freeRunTick =>
    have hc : ∀ p, ¬OfPort .freeRunTick p := by simp [OfPort, Instr.request, Instr.transaction]
    simp only [exec, execFreeRunTick] at h
    split at h <;> cases h
    · exact .tick_only hc (.refl s)
    · exact .same _ s
  | timerCloseBegin n =>
    have hc : ∀ p, ¬OfPort (.timerCloseBegin n) p := by simp [OfPort, Instr.request, Instr.transaction]
    simp only [exec, execTimerCloseBegin] at h
    split at h
    · cases h
      exact .same _ s
    · split at h <;> cases h
      · exact .of_event hc (.refl s) ‹_› (Account.timer_becomes _ _)
      · exact .same _ s
  | recordWritten n =>
    have hc : ∀ p, ¬OfPort (.recordWritten n) p := by simp [OfPort, Instr.request, Instr.transaction]
    simp only [exec, execRecordWritten] at h
    split at h
    · cases h
      exact .same _ s
    · split at h <;> cases h
      · exact .of_event hc ⟨s.raiseRecords_calm _ _, (s.raiseRecords_portsOnly _ _).leaves {} |>.accounts rfl⟩ ‹_›
          (Account.written_becomes ‹_› _)
      · exact .same _ s
  | pendingCloseBegin n =>
    have hc : ∀ p, ¬OfPort (.pendingCloseBegin n) p := by simp [OfPort, Instr.request, Instr.transaction]
    simp only [exec, execPendingCloseBegin] at h
    split at h
    · cases h
      exact .same _ s
    · split at h <;> cases h
      · exact .of_event hc (.refl s) ‹_› (Account.pendingBegin_becomes _ _)
      · exact .same _ s
  | deferredCloseBegin n =>
    have hc : ∀ p, ¬OfPort (.deferredCloseBegin n) p := by simp [OfPort, Instr.request, Instr.transaction]
    simp only [exec, execDeferredCloseBegin] at h
    split at h
    · cases h
      exact .same _ s
    · split at h <;> cases h
      · exact .of_event hc (.refl s) ‹_› (Account.deferredBegin_becomes _ _)
      · exact .same _ s
  | lapse =>
    refine .of_calm (hleaves.accounts rfl) ?_
    simp only [exec, execLapse] at h
    split at h
    · split at h <;> cases h
      · exact s.lapseNow_calm
      · exact .refl s
    · cases h
      exact .refl s
  | slotTimerExpiry b =>
    cases h
    exact .of_calm (hleaves.accounts rfl) (s.expireSlot_calm b)
  | deferredReclaim b =>
    cases h
    exact .of_calm (hleaves.accounts rfl) (s.settleReclaim_calm b)
  | openAccount p =>
    have hp : OfPort (.openAccount p) p := .of_request rfl
    cases h
    refine .of_take fun r => ?_
    dsimp only
    split
    · exact .same _ s
    · rename_i hown
      have hslot : (openFields r).slot < 24 ∧ ownerOf (openFields r).slot = p := by simpa [ownsSlot] using hown
      obtain ⟨hslot, howner⟩ := hslot
      split
      · exact .same _ s
      · split
        · exact .same _ s
        · split
          · exact .same _ s
          · refine .opened (openFields r) s.moment (openFields_codes_length r) ?_ hslot ?_ ?_ ?_ (.refl _)
            · simpa using ‹¬(s.account (openFields r).slot).isSome = true›
            · simpa using ‹¬(openFields r).invalid = true›
            · simpa using ‹¬(openFields r).repeats = true›
            · exact fun q hq => howner.trans (hp.unique hq)
  | setRights p =>
    cases h
    refine .of_take fun r => .of_onAccount (.of_request rfl) fun a ha hc => ?_
    dsimp only
    split
    · exact .rights _ a _ _ ha hc (.refl _)
    · exact .same _ s
  | suspend p =>
    cases h
    exact .of_take fun r => .of_onAccount (.of_request rfl) fun a ha hc =>
      .one _ a ({ a with suspended := true }, []) (.refl s) ha (.plain (fun h => { h with }) (.of_eq rfl rfl rfl)) hc
        (.refl _)
  | resume p =>
    cases h
    exact .of_take fun r => .of_onAccount (.of_request rfl) fun a ha hc =>
      .one _ a ({ a with suspended := false }, []) (.refl s) ha (.plain (fun h => { h with }) (.of_eq rfl rfl rfl)) hc
        (.refl _)
  | clearBins p =>
    cases h
    exact .of_take fun r => .of_onAccount (.of_request rfl) fun a ha hc =>
      .one _ a _ (.refl s) ha a.clearBins_becomes hc (.refl _)
  | closeInterval p =>
    cases h
    exact .of_take fun r => .of_onAccount (.of_request rfl) fun a ha hc =>
      .one _ a _ (.refl s) ha (a.closeBegin_becomes _ _) hc (.refl _)
  | releaseRecords p =>
    cases h
    exact .of_take fun r => .of_onAccount (.of_request rfl) fun a ha hc =>
      .one _ a _ (.refl s) ha (a.release_becomes _ _) hc (.refl _)
  | setWatch p =>
    cases h
    refine .of_take fun r => .of_onAccount (.of_request rfl) fun a ha hc => ?_
    dsimp only
    split
    · exact .watch _ a _ _ ha ‹_› hc (.refl _)
    · exact .same _ s
  | teardown p =>
    cases h
    refine .of_take fun r => .of_onAccount (.of_request rfl) fun a ha hc => ?_
    split
    · exact .same _ s
    · split
      · exact .same _ s
      · exact .freed _ a ha hc (.refl _)
  | freeze p =>
    cases h
    refine .of_calm (hleaves.accounts rfl) (s.take_calm p 10 _ fun r => s.onAccount_calm p _ _ _ fun a => ?_)
    split
    · exact .refl s
    · split
      · exact .refl s
      · split
        · exact s.grant_calm _ p _
        · exact .of_ports rfl
  | unfreeze p =>
    cases h
    exact .of_calm (hleaves.accounts rfl) (s.take_calm p 11 _ fun _ => s.giveUp_calm p)
  | loadDraft p =>
    cases h
    refine .of_calm (hleaves.accounts rfl) (s.take_calm p 12 _ fun r => ?_)
    split
    · exact .refl s
    · exact s.setJoint_calm _
  | propose p =>
    cases h
    refine .of_calm (hleaves.accounts rfl) (s.take_calm p 13 _ fun r => ?_)
    split
    · exact .refl s
    · split
      · exact .refl s
      · split
        · exact s.setJoint_calm _
        · exact .refl s
  | concur p =>
    cases h
    refine .of_calm (hleaves.accounts rfl) (s.take_calm p 14 _ fun r => ?_)
    split
    · exact .refl s
    · split
      · exact .refl s
      · split
        · exact .refl s
        · split
          · exact s.commit_calm _
          · exact .refl s
  | withdraw p =>
    cases h
    refine .of_calm (hleaves.accounts rfl) (s.take_calm p 15 _ fun r => ?_)
    split
    · exact .refl s
    · split
      · exact .refl s
      · split
        · exact .of_ports rfl
        · exact .refl s
  | setTime p =>
    cases h
    refine .of_take fun r => ?_
    split
    · rename_i hu
      refine .each Account.markTimeSet (fun a => .plain (fun h => h.markTimeSet) (.of_eq rfl rfl rfl)) (fun q _ => ?_)
        ⟨.of_ports rfl, rfl⟩
      exact ⟨by rw [hu], rfl⟩
    · exact .same _ s
  | selectBand p =>
    cases h
    refine .of_calm (hleaves.accounts rfl) (s.take_calm p 17 _ fun r => ?_)
    split
    · exact .refl s
    · split
      · exact .of_ports rfl
      · exact .refl s
  | setPort p =>
    cases h
    refine .of_calm (hleaves.accounts rfl) (s.take_calm p 18 _ fun r => ?_)
    dsimp only
    split
    · split
      · exact s.updPort_calm p _ ⟨rfl, fun h => { h with exponent := by assumption }⟩
      · exact .refl s
    · exact .refl s
  | portReset p =>
    cases h
    refine .reset p (u := _) ?_ (.refl _)
    have hports : ((s.giveUp p).withdrawOwn p).ports = (s.giveUp p).ports := by
      unfold State.withdrawOwn
      split
      · split <;> rfl
      · rfl
    have haccounts : ((s.giveUp p).withdrawOwn p).accounts = s.accounts := by
      rw [(State.withdrawOwn_leaves (f := { joint := true }) _ rfl p).accounts rfl]
      exact ((s.giveUp_freezeAndPorts p).leaves (f := { freeze := true }) rfl).accounts rfl
    exact ⟨(s.giveUp_calm p).trans (.of_ports hports), haccounts⟩
  | supplyFalling =>
    simp only [exec, execSupplyFalling] at h
    split at h <;> cases h
    · exact .same _ s
    · exact .each Account.interrupt (fun a => .plain (fun h => h.interrupt) (.of_eq rfl rfl rfl))
        (by simp [OfPort, Instr.request, Instr.transaction]) ⟨.of_ports rfl, rfl⟩
  | retentionLoss =>
    cases h
    exact .of_calm rfl (.of_ports rfl)
  | powerOnReset =>
    have hc : ∀ p, ¬OfPort .powerOnReset p := by simp [OfPort, Instr.request, Instr.transaction]
    simp only [exec, execPowerOnReset] at h
    split at h <;> cases h
    · exact .warm hc (.refl _)
    · exact .cold hc (.refl _)
  | portResetDeassertion p =>
    cases h
    exact .of_calm rfl (s.updPort_calm p _ ⟨rfl, fun h => { h with reset := nofun }⟩)
  | _ => exact exec_accountsStep_transaction h rfl

end Sys2Proof.Machine

/-! The account law, the port law and the route law are kept by every step, only the owner changes an account, and the
state after reset keeps every law. -/

namespace Sys2Proof.Machine

theorem watch_index_lt {a : Account} {k : Nat} {w : Watch} (h : a.watches[k]? = some w) : k < 4 := by
  by_contra hk
  rw [Vector.getElem?_eq_none (Nat.le_of_not_lt hk)] at h
  cases h

/-! ### The account law (O29) -/

theorem State.accountLaw_iff (s : State) : s.AccountLaw ↔ ∀ n a, s.account n = some a → a.Parts :=
  forall_congr' fun _ => forall_congr' fun a => imp_congr_right fun _ => a.law_iff

/-- Every account of a state keeps its laws. -/
def State.AccountParts (s : State) : Prop := ∀ n a, s.account n = some a → a.Parts

theorem Quiet.accountParts {s t : State} (h : Quiet s t) (hs : s.AccountParts) : t.AccountParts :=
  fun n a ha => hs n a (h.account n ▸ ha)

theorem PortsOnly.account {s t : State} (h : PortsOnly s t) (n : Nat) : t.account n = s.account n := by
  rw [State.account, (h.leaves {}).accounts rfl, State.account]

theorem State.setAccount_accountParts {s : State} (hs : s.AccountParts) {n : Nat} {x : Option Account} (hn : n < 24)
    (hx : ∀ a, x = some a → a.Parts) : (s.setAccount n x).AccountParts := by
  intro m a ha
  rw [State.setAccount_account _ _ _ _ hn] at ha
  split at ha
  · exact hx a ha
  · exact hs m a ha

theorem PortsOnly.accountParts {s t : State} (h : PortsOnly s t) (hs : s.AccountParts) : t.AccountParts :=
  fun n a ha => hs n a (h.account n ▸ ha)

theorem State.mapAccounts_accountParts {s : State} (hs : s.AccountParts) {f : Account → Account}
    (hf : ∀ a : Account, a.Parts → (f a).Parts) : (s.mapAccounts f).AccountParts := by
  intro n a ha
  rw [State.mapAccounts_account] at ha
  obtain ⟨b, hb, rfl⟩ := Option.map_eq_some_iff.mp ha
  exact hf b (hs n b hb)

theorem State.warmStart_account (s : State) (n : Nat) :
    s.warmStart.account n = (s.account n).map (Account.warm s.retention.interruptedMark) :=
  s.mapAccounts_account (Account.warm s.retention.interruptedMark) n

theorem State.coldStart_account (s : State) (n : Nat) : s.coldStart.account n = none := by
  have h : s.coldStart.account n = ((Vector.replicate 24 (none : Option Account))[n]?).join := rfl
  rw [h, Vector.getElem?_replicate]
  split <;> rfl

theorem State.pendingHead_portsOnly (s : State) (p : Port) (r : Readout) (w : Word) :
    PortsOnly s (s.pendingHead p r w) := by
  unfold State.pendingHead
  exact (s.enter_portsOnly p _).trans (State.updPort_portsOnly _ p _)

theorem AccountsStep.accountParts {c : Instr} {s t : State} (h : AccountsStep c s t) (hs : s.AccountParts) :
    t.AccountParts := by
  cases h with
  | quiet h => exact h.accountParts hs
  | each f hf hc h => exact h.accountParts (State.mapAccounts_accountParts hs fun a => (hf a).law)
  | @one u _ n a r hu ha hr hc h =>
    refine h.accountParts ((State.route_portsOnly _ n r.2).accountParts ?_)
    refine State.setAccount_accountParts (hu.accountParts hs) (State.lt_of_account_some ha) fun b hb => ?_
    cases hb
    exact hr.law (hs n a ha)
  | opened f m hcount hfree hslot hv hd hc h =>
    refine h.accountParts (State.setAccount_accountParts hs hslot fun b hb => ?_)
    cases hb
    exact OpenFields.account_parts hcount m hv hd
  | rights n a x v ha hc h =>
    refine h.accountParts ((State.dropUnqualified_portsOnly _ n _).accountParts ?_)
    refine State.setAccount_accountParts hs (State.lt_of_account_some ha) fun b hb => ?_
    cases hb
    exact ((hs n a ha).withRights x v).trim n
  | watch n a f w ha hw hc h =>
    refine h.accountParts ((State.dropPendingAll_portsOnly _ _).accountParts ?_)
    refine State.setAccount_accountParts hs (State.lt_of_account_some ha) fun b hb => ?_
    cases hb
    exact (hs n a ha).setWatch hw
  | freed n a ha hc h =>
    refine h.accountParts ((State.dropPendingAll_portsOnly _ _).accountParts ?_)
    refine State.setAccount_accountParts hs (State.lt_of_account_some ha) fun b hb => ?_
    cases hb
  | latched p r w hsel h => exact h.accountParts ((s.pendingHead_portsOnly p r w).accountParts hs)
  | emptied p x h =>
    exact h.accountParts (((s.close_portsOnly p).trans (State.updPort_portsOnly _ p _)).accountParts hs)
  | @reset u _ p hu h =>
    exact h.accountParts ((u.updPort_portsOnly p PortState.reset).accountParts (hu.accountParts hs))
  | warm hc h =>
    refine h.accountParts fun n a ha => ?_
    rw [State.warmStart_account] at ha
    obtain ⟨b, hb, rfl⟩ := Option.map_eq_some_iff.mp ha
    exact (hs n b hb).warm _
  | cold hc h =>
    refine h.accountParts fun n a ha => ?_
    rw [State.coldStart_account] at ha
    cases ha

/-! ### The port law (O40) -/

/-- Every port of a state keeps its laws. -/
def State.PortParts (s : State) : Prop := ∀ p, (s.port p).Parts

theorem Quiet.portParts {s t : State} (h : Quiet s t) (hs : s.PortParts) : t.PortParts := fun p => (h.calm p).law (hs p)

/-- Entries may leave a pending set and change their crossings within the counts (R137, R138). -/
theorem PortState.Parts.thinned {x : PortState} (h : x.Parts) (f : PendingEntry → Option PendingEntry)
    (hf : ∀ e g, f e = some g → g.account = e.account ∧ g.watch = e.watch ∧ (e.Held → g.Held)) :
    { x with pendingSet := x.pendingSet.filterMap f }.Parts := by
  refine { h with sorted := ?_, entries := fun g hg => ?_ }
  · refine List.Pairwise.filterMap f (R := fun e f => e.key < f.key) (fun e e' hlt g hg g' hg' => ?_) h.sorted
    obtain ⟨haccount, hwatch, _⟩ := hf e g hg
    obtain ⟨haccount', hwatch', _⟩ := hf e' g' hg'
    simpa [PendingEntry.key, haccount, hwatch, haccount', hwatch'] using hlt
  · obtain ⟨e, he, heg⟩ := List.mem_filterMap.mp hg
    obtain ⟨haccount, hwatch, hheld⟩ := hf e g heg
    obtain ⟨hn, hk, hcounts⟩ := h.entries e he
    exact ⟨haccount ▸ hn, hwatch ▸ hk, hheld hcounts⟩

theorem PortState.Parts.filtered {x : PortState} (h : x.Parts) (f : PendingEntry → Bool) :
    { x with pendingSet := x.pendingSet.filter f }.Parts := by
  have hkept := h.thinned (Option.guard f) fun e g hg => by
    obtain ⟨rfl, _⟩ := Option.guard_eq_some_iff.mp hg
    exact ⟨rfl, rfl, id⟩
  rwa [List.filterMap_eq_filter] at hkept

theorem State.updPort_portParts {s : State} (hs : s.PortParts) {p : Port} {f : PortState → PortState}
    (hf : (s.port p).Parts → (f (s.port p)).Parts) : (s.updPort p f).PortParts := by
  intro q
  rw [State.updPort_port]
  split
  · exact hf (hs p)
  · exact hs q

theorem State.dropPending_portParts {s : State} (hs : s.PortParts) (p : Port) (f : PendingEntry → Bool) :
    (s.dropPending p f).PortParts := State.updPort_portParts hs fun h => h.filtered _

/-- What the end of a pending-set read leaves of an entry (R137). -/
theorem State.settleEntry_kept {s : State} {e g : PendingEntry} (h : s.settleEntry e = some g) :
    g.account = e.account ∧ g.watch = e.watch ∧ (e.Held → g.Held) := by
  unfold State.settleEntry at h
  split at h
  · cases h
    exact ⟨rfl, rfl, fun ⟨_, hsince⟩ => ⟨hsince, hsince⟩⟩
  · split at h <;> cases h
    exact ⟨rfl, rfl, fun ⟨_, hsince⟩ => ⟨Nat.zero_le _, hsince⟩⟩

/-- The pending set after a read, entry by entry (R137). -/
def State.afterRead (s : State) (t : Transaction) (e : PendingEntry) : Option PendingEntry :=
  if (e.account, e.watch) ∈ t.keys.take (entriesRead t.moved) then s.settleEntry e else some e

theorem State.pendingAfter_eq (s : State) (p : Port) (t : Transaction) :
    s.pendingAfter p t = (s.port p).pendingSet.filterMap (s.afterRead t) := rfl

theorem State.afterRead_kept {s : State} {t : Transaction} {e g : PendingEntry} (h : s.afterRead t e = some g) :
    g.account = e.account ∧ g.watch = e.watch ∧ (e.Held → g.Held) := by
  unfold State.afterRead at h
  split at h
  · exact State.settleEntry_kept h
  · cases h
    exact ⟨rfl, rfl, id⟩

theorem State.pendingHead_port (s : State) (p : Port) (r : Readout) (w : Word) :
    (s.pendingHead p r w).port p = { s.port p with
      transaction := some { Transaction.begin r .pendingSet w true with
        latch := plainWords (pendingSetWords s p)
        keys := (s.port p).pendingSet.map fun e => (e.account, e.watch) }
      dataOut := 0xFFFF
      pendingSet := (s.port p).pendingSet.map PendingEntry.latched } := by
  simp [State.pendingHead, State.enter]

theorem PortState.start_parts (cold asserted : Bool) (x : ChipSelect) (hx : ∀ r, x ≠ .low r) :
    (PortState.start cold asserted x).Parts :=
  { sorted := .nil, entries := nofun, exponent := Nat.zero_le _
    edges := (by decide : 0x800#12 &&& ~~~edgeMask = 0), fault := nofun, served := by rintro t ⟨⟩
    reset := fun _ => hx }

theorem ChipSelect.cut_ne_low (x : ChipSelect) (r : Readout) : x.cut ≠ .low r := by
  cases x <;> nofun

theorem PortState.reset_parts (x : PortState) : x.reset.Parts :=
  { sorted := .nil, entries := nofun, exponent := Nat.zero_le _, edges := BitVec.zero_and
    fault := nofun, served := by rintro t ⟨⟩
    reset := fun _ => x.select.cut_ne_low }

theorem State.start_port (s : State) (cold : Bool) (accounts : Vector (Option Account) 24) (t : Table) (epoch : Count)
    (serial : Word) (second : Count) (band : BitVec 3) (p : Port) :
    (s.start cold accounts t epoch serial second band).port p =
      PortState.start cold (s.port p).resetAsserted (s.port p).select.cut := by
  cases p <;> rfl

theorem State.setAccount_portParts {s : State} (hs : s.PortParts) (n : Nat) (x : Option Account) :
    (s.setAccount n x).PortParts := hs

theorem AccountsStep.portParts {c : Instr} {s t : State} (h : AccountsStep c s t) (hs : s.PortParts) :
    t.PortParts := by
  cases h with
  | quiet h => exact h.portParts hs
  | each f hf hc h => exact h.portParts hs
  | @one u _ n a r hu ha hr hc h =>
    refine h.portParts fun p => ?_
    rw [State.setEvaluated, State.route_port]
    refine (State.setAccount_portParts (hu.portParts hs) n _ p).enrolled (State.lt_of_account_some ha) fun x hx => ?_
    obtain ⟨w, hw, _⟩ := hr.crossed x hx
    exact watch_index_lt hw
  | opened f m hcount hfree hslot hv hd hc h => exact h.portParts (State.setAccount_portParts hs _ _)
  | rights n a x v ha hc h =>
    refine h.portParts ?_
    exact State.dropPending_portParts (State.dropPending_portParts (State.dropPending_portParts
      (State.setAccount_portParts hs _ _) _ _) _ _) _ _
  | watch n a f w ha hw hc h =>
    refine h.portParts ?_
    exact State.dropPending_portParts (State.dropPending_portParts (State.dropPending_portParts
      (State.setAccount_portParts hs _ _) _ _) _ _) _ _
  | freed n a ha hc h =>
    refine h.portParts ?_
    exact State.dropPending_portParts (State.dropPending_portParts (State.dropPending_portParts
      (State.setAccount_portParts hs _ _) _ _) _ _) _ _
  | latched p r w hsel h =>
    refine h.portParts (State.updPort_portParts ((s.enter_calm p _ hsel).trans (.refl _) |> fun k q => (k q).law (hs q))
      fun hp => ?_)
    have hkept := hp.thinned (fun e => some e.latched) fun e g hg => by
      cases hg
      exact ⟨rfl, rfl, fun ⟨hcount, _⟩ => ⟨hcount, Nat.zero_le _⟩⟩
    rwa [List.filterMap_eq_map'] at hkept
  | emptied p x h =>
    refine h.portParts (State.updPort_portParts (fun q => (s.close_calm p q).law (hs q)) fun hp => ?_)
    have hkept := hp.thinned (s.afterRead x) fun _ _ => State.afterRead_kept
    rwa [(s.close_calm p p).pendingSet] at hkept
  | @reset u _ p hu h => exact h.portParts (State.updPort_portParts (hu.portParts hs) fun _ => PortState.reset_parts _)
  | warm hc h =>
    refine h.portParts fun p => ?_
    rw [State.warmStart, State.start_port]
    exact PortState.start_parts _ _ _ (s.port p).select.cut_ne_low
  | cold hc h =>
    refine h.portParts fun p => ?_
    rw [State.coldStart, State.start_port]
    exact PortState.start_parts _ _ _ (s.port p).select.cut_ne_low

end Sys2Proof.Machine

/-! The route law over the steps of the accounts and the pending sets, and the statements that the steps settle: O29, O39,
O40, O42 and, for the state after reset, O60. -/

namespace Sys2Proof.Machine

/-! ### The route law (O39) -/

/-- Port `p` is qualified for watch `k` of the account in slot `n`. -/
def State.Tells (s : State) (n k : Nat) (p : Port) : Prop := ∃ a, s.account n = some a ∧ a.Tells n k p

/-- The route law: every route, and every entry of a pending set, names ports that are qualified. -/
structure State.RouteParts (s : State) : Prop where
  routes : ∀ n a, s.account n = some a → a.RoutesKnow n
  entries : ∀ p, ∀ e ∈ (s.port p).pendingSet, s.Tells e.account e.watch p

theorem State.routeLaw_iff_parts (s : State) : s.RouteLaw ↔ s.RouteParts :=
  s.routeLaw_iff.trans ⟨fun ⟨h, k⟩ => ⟨h, k⟩, fun ⟨h, k⟩ => ⟨h, k⟩⟩

theorem Quiet.routeParts {s t : State} (h : Quiet s t) (hs : s.RouteParts) : t.RouteParts := by
  refine ⟨fun n a ha => hs.routes n a (h.account n ▸ ha), fun p e he => ?_⟩
  rw [(h.calm p).pendingSet] at he
  obtain ⟨a, ha, htells⟩ := hs.entries p e he
  exact ⟨a, (h.account e.account).trans ha, htells⟩

/-- Every entry of a pending set in `t` stands for the same account and watch in that set in `s`. -/
def Thinned (s t : State) : Prop :=
  ∀ p, ∀ e ∈ (t.port p).pendingSet, ∃ d ∈ (s.port p).pendingSet, d.account = e.account ∧ d.watch = e.watch

/-- Entries that stood are told of as before when every account keeps its access. -/
theorem State.RouteParts.of_thinned {s t : State} (hs : s.RouteParts) (h : Thinned s t)
    (hr : ∀ n b, t.account n = some b → b.RoutesKnow n)
    (ha : ∀ n a, s.account n = some a → ∃ b, t.account n = some b ∧ SameAccess a b) : t.RouteParts := by
  refine ⟨hr, fun p e he => ?_⟩
  obtain ⟨d, hd, haccount, hwatch⟩ := h p e he
  obtain ⟨a, hfound, htells⟩ := hs.entries p d hd
  obtain ⟨b, hb, hsame⟩ := ha _ a hfound
  rw [← haccount, ← hwatch]
  exact ⟨b, hb, hsame.tells htells⟩

theorem State.RouteParts.of_map {s t : State} (hs : s.RouteParts) (h : Thinned s t) {f : Account → Account}
    (ht : ∀ n, t.account n = (s.account n).map f) (hf : ∀ a, SameAccess a (f a)) : t.RouteParts := by
  refine hs.of_thinned h (fun n b hb => ?_) fun n a ha => ⟨f a, by rw [ht, ha]; rfl, hf a⟩
  rw [ht] at hb
  obtain ⟨a, ha, rfl⟩ := Option.map_eq_some_iff.mp hb
  exact (hf a).routesKnow (hs.routes n a ha)

/-- The entries that `f` names leave the pending sets (R130, R139). -/
theorem State.mem_dropPendingAll {s : State} {f : PendingEntry → Bool} {p : Port} {e : PendingEntry} :
    e ∈ ((s.dropPendingAll f).port p).pendingSet ↔ e ∈ (s.port p).pendingSet ∧ f e = false := by
  cases p <;> simp [State.dropPendingAll, State.dropPending]

theorem State.mem_dropUnqualified {s : State} {n : Nat} {a : Account} {p : Port} {e : PendingEntry} :
    e ∈ ((s.dropUnqualified n a).port p).pendingSet ↔
      e ∈ (s.port p).pendingSet ∧ a.unqualifiedEntry n p e = false := by
  cases p <;> simp [State.dropUnqualified, State.dropPending]

/-- A newly opened account routes to no port (R129). -/
theorem OpenFields.account_routesKnow (f : OpenFields) (m : Moment) (n : Nat) : (f.account m).RoutesKnow n := by
  intro k w p hw hp
  have : w = Watch.initial := by
    have hmem := Vector.mem_of_getElem? hw
    simpa [OpenFields.account] using hmem
  rw [this] at hp
  cases p <;> cases hp

/-- The ports of a trimmed route are qualified (R138). -/
theorem Account.trim_routesKnow (a : Account) (n : Nat) : (a.trim n).RoutesKnow n := by
  intro k w p hw hp
  rw [Account.trim, mapVec_getElem?] at hw
  obtain ⟨v, _, rfl⟩ := Option.map_eq_some_iff.mp hw
  have hq : (a.trim n).qualified n v.bin p = a.qualified n v.bin p := rfl
  rw [show (a.trimRoute n v).bin = v.bin from rfl, hq]
  cases p <;> simp_all [Account.trimRoute, PerPort.get]

/-- An entry that a trim leaves is of a watch for which its port is qualified (R138). -/
theorem Account.trim_tells {a : Account} {n : Nat} {p : Port} {e : PendingEntry} (hn : e.account = n)
    (hk : ∃ w, (a.trim n).watches[e.watch]? = some w) (h : (a.trim n).unqualifiedEntry n p e = false) :
    (a.trim n).Tells n e.watch p := by
  obtain ⟨w, hw⟩ := hk
  refine ⟨w, hw, ?_⟩
  simpa [Account.unqualifiedEntry, hn, hw] using h

/-- The watch that a SET_WATCH sets routes to qualified ports alone (R130). -/
theorem WatchFields.watchFor_qualified {f : WatchFields} {n : Nat} {a : Account} {w : Watch}
    (h : f.watchFor n a = some w) {p : Port} (hp : w.route.get p = true) : a.qualified n w.bin p = true := by
  unfold WatchFields.watchFor at h
  split at h
  · split at h <;> cases h
    rename_i hgood
    obtain ⟨_, _, _, hroute⟩ := hgood
    simp only [Account.routeQualified, Bool.and_eq_true, Bool.or_eq_true, Bool.not_eq_true'] at hroute
    obtain ⟨⟨hu, hf⟩, hc⟩ := hroute
    cases p
    · exact hu.resolve_left (by simpa [PerPort.get] using hp)
    · exact hf.resolve_left (by simpa [PerPort.get] using hp)
    · exact hc.resolve_left (by simpa [PerPort.get] using hp)
  · cases h

theorem State.setEvaluated_routeParts {s : State} (hs : s.RouteParts) {n : Nat} {a : Account}
    {r : Account × List Crossed} (ha : s.account n = some a) (hr : a.Becomes r) : (s.setEvaluated n r).RouteParts := by
  have hn := State.lt_of_account_some ha
  have told {k : Nat} {p : Port} (h : a.Tells n k p) : (s.setEvaluated n r).Tells n k p :=
    ⟨r.1, by rw [State.setEvaluated_account _ _ _ _ hn, if_pos rfl], hr.access.tells h⟩
  refine ⟨fun m b hb => ?_, fun p e he => ?_⟩
  · rw [State.setEvaluated_account _ _ _ _ hn] at hb
    split at hb
    · rename_i hm
      cases hb
      rw [hm]
      exact hr.access.routesKnow (hs.routes n a ha)
    · exact hs.routes m b hb
  · rw [State.setEvaluated, State.route_port] at he
    obtain ⟨x, hx, hroute, haccount, hwatch⟩ | he := PortState.mem_enrolled he
    · obtain ⟨w, hw, hsame⟩ := hr.crossed x hx
      rw [haccount, hwatch]
      exact told ⟨w, hw, hs.routes n a ha x.watch w p hw (hsame ▸ hroute)⟩
    · obtain ⟨b, hb, htells⟩ := hs.entries p e he
      by_cases hm : e.account = n
      · rw [hm] at hb htells ⊢
        cases ha.symm.trans hb
        exact told htells
      · exact ⟨b, by rwa [State.setEvaluated_account _ _ _ _ hn, if_neg hm], htells⟩

theorem State.setRights_routeParts {s : State} (hs : s.RouteParts) {n : Nat} {a : Account} (ha : s.account n = some a)
    (x : Rights) (v : List Word) :
    ((s.setAccount n (some ((a.withRights x v).trim n))).dropUnqualified n ((a.withRights x v).trim n)).RouteParts := by
  have hn := State.lt_of_account_some ha
  refine ⟨fun m b hb => ?_, fun p e he => ?_⟩
  · rw [(State.dropUnqualified_portsOnly _ n _).account, State.setAccount_account _ _ _ _ hn] at hb
    split at hb
    · rename_i hm
      cases hb
      rw [hm]
      exact Account.trim_routesKnow _ n
    · exact hs.routes m b hb
  · obtain ⟨hmem, hkept⟩ := State.mem_dropUnqualified.mp he
    obtain ⟨b, hb, htells⟩ := hs.entries p e hmem
    unfold State.Tells
    rw [(State.dropUnqualified_portsOnly _ n _).account, State.setAccount_account _ _ _ _ hn]
    by_cases hm : e.account = n
    · rw [if_pos hm, hm]
      refine ⟨_, rfl, Account.trim_tells hm ?_ hkept⟩
      rw [hm] at hb
      cases ha.symm.trans hb
      obtain ⟨w, hw, _⟩ := htells
      exact ⟨_, by rw [Account.trim, mapVec_getElem?, show (a.withRights x v).watches = a.watches from rfl, hw]; rfl⟩
    · rw [if_neg hm]
      exact ⟨b, hb, htells⟩

theorem State.setWatch_routeParts {s : State} (hs : s.RouteParts) {n : Nat} {a : Account} {f : WatchFields} {w : Watch}
    (ha : s.account n = some a) (hw : f.watchFor n a = some w) :
    ((s.setAccount n (some { a with watches := a.watches.setIfInBounds f.watch w })).dropPendingAll
      fun e => e.isOf n f.watch).RouteParts := by
  have hn := State.lt_of_account_some ha
  refine ⟨fun m b hb => ?_, fun p e he => ?_⟩
  · rw [(State.dropPendingAll_portsOnly _ _).account, State.setAccount_account _ _ _ _ hn] at hb
    split at hb
    · rename_i hm
      cases hb
      rw [hm]
      intro k v p hv hp
      have hq : a.qualified n v.bin p = true := by
        rw [Vector.getElem?_setIfInBounds] at hv
        split at hv
        · split at hv <;> cases hv
          exact WatchFields.watchFor_qualified hw hp
        · exact hs.routes n a ha k v p hv hp
      exact hq
    · exact hs.routes m b hb
  · obtain ⟨hmem, hkept⟩ := State.mem_dropPendingAll.mp he
    obtain ⟨b, hb, htells⟩ := hs.entries p e hmem
    unfold State.Tells
    rw [(State.dropPendingAll_portsOnly _ _).account, State.setAccount_account _ _ _ _ hn]
    by_cases hm : e.account = n
    · rw [if_pos hm, hm]
      rw [hm] at hb htells
      cases ha.symm.trans hb
      have hother : f.watch ≠ e.watch := fun h => by simp [PendingEntry.isOf, hm, h] at hkept
      obtain ⟨v, hv, hq⟩ := htells
      exact ⟨_, rfl, v, by rw [Vector.getElem?_setIfInBounds, if_neg hother]; exact hv, hq⟩
    · rw [if_neg hm]
      exact ⟨b, hb, htells⟩

theorem State.teardown_routeParts {s : State} (hs : s.RouteParts) {n : Nat} (hn : n < 24) :
    ((s.setAccount n none).dropPendingAll fun e => e.account == n).RouteParts := by
  refine ⟨fun m b hb => ?_, fun p e he => ?_⟩
  · rw [(State.dropPendingAll_portsOnly _ _).account, State.setAccount_account _ _ _ _ hn] at hb
    split at hb
    · cases hb
    · exact hs.routes m b hb
  · obtain ⟨hmem, hkept⟩ := State.mem_dropPendingAll.mp he
    have hm : e.account ≠ n := by simpa using hkept
    obtain ⟨b, hb, htells⟩ := hs.entries p e hmem
    refine ⟨b, ?_, htells⟩
    rwa [(State.dropPendingAll_portsOnly _ _).account, State.setAccount_account _ _ _ _ hn, if_neg hm]

theorem State.openAccount_routeParts {s : State} (hs : s.RouteParts) {f : OpenFields} (m : Moment)
    (hfree : s.account f.slot = none) (hn : f.slot < 24) :
    (s.setAccount f.slot (some (f.account m))).RouteParts := by
  refine ⟨fun k b hb => ?_, fun p e he => ?_⟩
  · rw [State.setAccount_account _ _ _ _ hn] at hb
    split at hb
    · cases hb
      exact f.account_routesKnow m k
    · exact hs.routes k b hb
  · obtain ⟨b, hb, htells⟩ := hs.entries p e he
    refine ⟨b, ?_, htells⟩
    rw [State.setAccount_account _ _ _ _ hn, if_neg]
    · exact hb
    · intro hm
      rw [hm, hfree] at hb
      cases hb

/-- The port's own pending set may lose entries and change their crossings; the others stand (R137). -/
theorem State.updPort_thinned {s : State} {p : Port} {f : PortState → PortState}
    (hf : ∀ e ∈ (f (s.port p)).pendingSet, ∃ d ∈ (s.port p).pendingSet, d.account = e.account ∧ d.watch = e.watch) :
    Thinned s (s.updPort p f) := by
  intro q e he
  rw [State.updPort_port] at he
  split at he
  · rename_i hq
    rw [hq]
    exact hf e he
  · exact ⟨e, he, rfl, rfl⟩

/-- Entries that change nothing but their crossings, with the accounts as they stand. -/
theorem State.updPort_routeParts {s : State} (hs : s.RouteParts) {p : Port} {f : PortState → PortState}
    (hf : ∀ e ∈ (f (s.port p)).pendingSet, ∃ d ∈ (s.port p).pendingSet, d.account = e.account ∧ d.watch = e.watch) :
    (s.updPort p f).RouteParts := hs.of_thinned (State.updPort_thinned hf) hs.routes fun _ a ha => ⟨a, ha, .refl a⟩

theorem AccountsStep.routeParts {c : Instr} {s t : State} (h : AccountsStep c s t) (hs : s.RouteParts) :
    t.RouteParts := by
  cases h with
  | quiet h => exact h.routeParts hs
  | each f hf hc h =>
    exact h.routeParts (hs.of_map (fun p e he => ⟨e, he, rfl, rfl⟩) (fun n => s.mapAccounts_account f n)
      fun a => (hf a).access)
  | one n a r hu ha hr hc h =>
    exact h.routeParts (State.setEvaluated_routeParts (hu.routeParts hs) ((hu.account n).trans ha) hr)
  | opened f m hcount hfree hslot hv hd hc h => exact h.routeParts (State.openAccount_routeParts hs m hfree hslot)
  | rights n a x v ha hc h => exact h.routeParts (State.setRights_routeParts hs ha x v)
  | watch n a f w ha hw hc h => exact h.routeParts (State.setWatch_routeParts hs ha hw)
  | freed n a ha hc h => exact h.routeParts (State.teardown_routeParts hs (State.lt_of_account_some ha))
  | latched p r w hsel h =>
    refine h.routeParts ?_
    unfold State.pendingHead
    refine State.updPort_routeParts (Quiet.routeParts ⟨s.enter_calm p _ (by rw [hsel]; rfl), rfl⟩ hs) fun e he => ?_
    obtain ⟨d, hd, rfl⟩ := List.mem_map.mp he
    exact ⟨d, hd, rfl, rfl⟩
  | emptied p x h =>
    refine h.routeParts (State.updPort_routeParts (Quiet.routeParts ⟨s.close_calm p, rfl⟩ hs) fun e he => ?_)
    obtain ⟨d, hd, hkept⟩ := List.mem_filterMap.mp he
    obtain ⟨haccount, hwatch, _⟩ := State.afterRead_kept hkept
    rw [(s.close_calm p p).pendingSet]
    exact ⟨d, hd, haccount.symm, hwatch.symm⟩
  | reset p hu h => exact h.routeParts (State.updPort_routeParts (hu.routeParts hs) nofun)
  | warm hc h =>
    refine h.routeParts (hs.of_map (fun p e he => ?_) (fun n => s.warmStart_account n) fun a => ?_)
    · rw [State.warmStart, State.start_port] at he
      cases he
    · unfold Account.warm
      split
      · exact .of_eq rfl rfl rfl
      · exact .of_eq rfl rfl rfl
  | cold hc h =>
    refine h.routeParts ⟨fun n a ha => ?_, fun p e he => ?_⟩
    · rw [State.coldStart_account] at ha
      cases ha
    · rw [State.coldStart, State.start_port] at he
      cases he

/-! ### Whose accounts a port changes (O42) -/

/-- A command of a port changes the accounts that the port owns, or sets the two flags of SET_TIME from port U. -/
theorem AccountsStep.account_of_port {c : Instr} {s t : State} (h : AccountsStep c s t) {p : Port} (hc : OfPort c p)
    {n : Nat} (hn : ownerOf n ≠ p) :
    t.account n = s.account n ∨ (c = .setTime .U ∧ t.account n = (s.account n).map Account.markTimeSet) := by
  have other {m : Nat} (hown : ∀ q, OfPort c q → ownerOf m = q) : n ≠ m := by
    rintro rfl
    exact hn (hown p hc)
  cases h with
  | quiet h => exact .inl (h.account n)
  | each f hf hown h =>
    obtain ⟨rfl, rfl⟩ := hown p hc
    exact .inr ⟨rfl, by rw [h.account, State.mapAccounts_account]⟩
  | one m a r hu ha hr hown h =>
    refine .inl ?_
    rw [h.account, State.setEvaluated_account _ _ _ _ (State.lt_of_account_some ha), if_neg (other hown), hu.account]
  | opened f m hcount hfree hslot hv hd hown h =>
    refine .inl ?_
    rw [h.account, State.setAccount_account_ne _ _ _ _ (other hown)]
  | rights m a x v ha hown h =>
    refine .inl ?_
    rw [h.account, (State.dropUnqualified_portsOnly _ _ _).account, State.setAccount_account_ne _ _ _ _ (other hown)]
  | watch m a f w ha hw hown h =>
    refine .inl ?_
    rw [h.account, (State.dropPendingAll_portsOnly _ _).account, State.setAccount_account_ne _ _ _ _ (other hown)]
  | freed m a ha hown h =>
    refine .inl ?_
    rw [h.account, (State.dropPendingAll_portsOnly _ _).account, State.setAccount_account_ne _ _ _ _ (other hown)]
  | latched q r w hsel h => exact .inl ((h.account n).trans ((s.pendingHead_portsOnly q r w).account n))
  | emptied q x h => exact .inl ((h.account n).trans
      (((s.close_portsOnly q).trans (State.updPort_portsOnly _ q _)).account n))
  | @reset u _ q hu h =>
    exact .inl ((h.account n).trans (((u.updPort_portsOnly q PortState.reset).account n).trans (hu.account n)))
  | warm hnone h => exact absurd hc (hnone p)
  | cold hnone h => exact absurd hc (hnone p)

/-! ### The statements -/

/-- Settles O29, over the steps of the accounts. -/
theorem stepKeepsAccountLaw : Obligations.StepKeepsAccountLaw := by
  intro s t hs h
  refine step_keeps (P := State.AccountLaw) (fun _ _ h => h) (fun _ h => h) (fun c u v hu he => ?_) s t hs h
  rw [State.accountLaw_iff] at hu ⊢
  exact (exec_accountsStep he).accountParts hu

/-- Settles O39, over the steps of the accounts and the pending sets. -/
theorem stepKeepsRouteLaw : Obligations.StepKeepsRouteLaw := by
  intro s t hs h
  refine step_keeps (P := State.RouteLaw) (fun _ _ h => h) (fun _ h => h) (fun c u v hu he => ?_) s t hs h
  rw [State.routeLaw_iff_parts] at hu ⊢
  exact (exec_accountsStep he).routeParts hu

/-- Settles O40, over the steps of the pending sets. -/
theorem stepKeepsPortLaw : Obligations.StepKeepsPortLaw := by
  intro s t hs h
  refine step_keeps (P := State.PortLaw) (fun _ _ h => h) (fun _ h => h) (fun c u v hu he => ?_) s t hs h
  rw [State.portLaw_iff] at hu ⊢
  exact (exec_accountsStep he).portParts hu

/-- Settles O42, over the steps of the accounts. -/
theorem onlyTheOwnerChangesAnAccount : Obligations.OnlyTheOwnerChangesAnAccount :=
  fun _ _ _ _ _ h hn hc => (exec_accountsStep h).account_of_port hc hn

/-! ### The state after reset (O60) -/

/-- The state after reset is that of a cold start (R190). -/
theorem State.reset_eq_coldStart : State.reset = State.reset.coldStart := rfl

theorem State.coldStart_parts (s : State) : s.coldStart.AccountParts ∧ s.coldStart.PortParts ∧ s.coldStart.RouteParts := by
  have hnone (n : Nat) (a : Account) : s.coldStart.account n ≠ some a := by
    rw [State.coldStart_account]
    nofun
  have hport (p : Port) : s.coldStart.port p = PortState.start true (s.port p).resetAsserted (s.port p).select.cut := by
    rw [State.coldStart, State.start_port]
  refine ⟨fun n a ha => absurd ha (hnone n a), fun p => ?_, fun n a ha => absurd ha (hnone n a), fun p e he => ?_⟩
  · rw [hport]
    exact PortState.start_parts _ _ _ (s.port p).select.cut_ne_low
  · rw [hport] at he
    cases he

/-- Settles O60, by the laws after a cold start. -/
theorem resetKeepsEveryLaw : Obligations.ResetKeepsEveryLaw := by
  obtain ⟨haccounts, hports, hroutes⟩ := State.reset.coldStart_parts
  rw [← State.reset_eq_coldStart] at haccounts hports hroutes
  refine ⟨?_, ?_, ⟨Table.default_valid, nofun⟩, (State.accountLaw_iff _).mpr haccounts,
    (State.routeLaw_iff_parts _).mpr hroutes, (State.portLaw_iff _).mpr hports,
    .inl rfl, .nil, nofun, fun h => absurd rfl h, by decide, by decide⟩
  · rw [State.reset_eq_coldStart]
    exact State.reset.start_receiverLaw _ _ _ _ _ _ _
  · rw [State.reset_eq_coldStart]
    exact State.reset.start_pathLaw _ _ _ _ _ _ _

end Sys2Proof.Machine

/-! The engine and the calculator: what a record handed off raises, what an invalid entry leaves, and what an IDLE engine
takes of its wait list (R20 to R23, R51 to R60, R92). -/

namespace Sys2Proof.Machine

/-! ### Raised indications (R179, R180) -/

theorem PortState.raise_portRaised (x : PortState) (e : Event) : PortRaised x (x.raise e) e := by
  refine ⟨rfl, fun k => ?_⟩
  have hbit : e.bit < 12 := by cases e <;> decide
  simp [PortState.raise, Event.mask, BitVec.getLsbD_twoPow, hbit, eq_comm]

theorem State.raiseAll_port (s : State) (e : Event) (p : Port) : (s.raiseAll e).port p = (s.port p).raise e := by
  cases p <;> rfl

/-! ### Records on their way (R57 to R60, R92) -/

theorem Posting.arrive_eq (u : Posting) (r : ResultRecord) : u.arrive r = postingWith u r := by
  obtain ⟨waiting, current⟩ := u
  cases current <;> cases waiting <;> rfl

theorem State.handOff_calc (s : State) (r : ResultRecord) (k : Incomer) :
    (s.handOff r).calc k = if k = r.incomer then { s.calc r.incomer with latest := some r } else s.calc k := by
  simp [State.handOff, State.calc, State.setCalc]

theorem State.handOff_port (s : State) (r : ResultRecord) (p : Port) :
    (s.handOff r).port p = (s.port p).raise .result := by
  unfold State.handOff
  exact State.raiseAll_port _ _ p

theorem State.handOff_assembler (s : State) (r : ResultRecord) (k : Incomer) :
    (s.handOff r).assembler k = s.assembler k := rfl

/-- A record handed off changes the calculator, the posting unit and the ports alone. -/
theorem State.handOff_eq (s : State) (r : ResultRecord) : s.handOff r = { s with
    calculator := (s.handOff r).calculator, posting := (s.handOff r).posting, ports := (s.handOff r).ports } := rfl

/-! ### Invalid entries (R22, R51 to R55) -/

/-- The result of an invalid entry carries the entry's stamps and the epoch, whatever its disposition (R57). -/
theorem WaitEntry.invalidResult_eq (e : WaitEntry) (source : Option Source) (epoch : Count) (run : Nat) :
    ∃ l g, e.invalidResult source epoch run = e.result epoch l g := by
  unfold WaitEntry.invalidResult
  split
  · split
    · exact ⟨_, _, rfl⟩
    · exact ⟨_, _, rfl⟩
  · exact ⟨_, _, rfl⟩

theorem Source.serves_iff (src : Source) (epoch : Count) (run : Nat) :
    src.serves epoch run = true ↔ src.epoch = epoch ∧ run ≤ 8 := by
  rw [Source.serves, Bool.and_eq_true, beq_iff_eq, decide_eq_true_eq]
  exact Iff.rfl

theorem WaitEntry.invalidResult_substituted (e : WaitEntry) {src : Source} {epoch : Count} {run : Nat}
    (he : src.epoch = epoch) (hr : run ≤ 8) : e.invalidResult (some src) epoch run =
      e.result epoch src.limited (.substituted (scaledIncrements src e.ticks)) :=
  if_pos ((src.serves_iff epoch run).mpr ⟨he, hr⟩)

theorem WaitEntry.invalidResult_gap (e : WaitEntry) {source : Option Source} {epoch : Count} {run : Nat}
    (h : ∀ src, source = some src → src.epoch = epoch → 8 < run) :
    e.invalidResult source epoch run = e.result epoch false .gap := by
  unfold WaitEntry.invalidResult
  split
  · rename_i src
    refine if_neg fun hs => ?_
    obtain ⟨he, hr⟩ := (src.serves_iff epoch run).mp hs
    have := h src rfl he
    omega
  · rfl

/-- The invalid run of an incomer, raised by one more invalid entry (R52). -/
def State.raisedRun (s : State) (i : Incomer) : Nat := raiseHeld Config.count16Max (s.calc i).invalidRun

/-- The record with which an invalid entry leaves (R51, R57). -/
def State.recordLeft (s : State) (e : WaitEntry) : ResultRecord :=
  e.invalidResult (s.calc e.incomer).source s.joint.epoch (s.raisedRun e.incomer)

theorem State.leaveInvalid_eq (s : State) (e : WaitEntry) (rest : List WaitEntry) :
    s.leaveInvalid e rest = ({ s with waitList := rest }.setCalc e.incomer
      { s.calc e.incomer with invalidRun := s.raisedRun e.incomer }).handOff (s.recordLeft e) := rfl

theorem State.recordLeft_eq (s : State) (e : WaitEntry) : ∃ l g, s.recordLeft e = e.result s.joint.epoch l g :=
  e.invalidResult_eq _ _ _

theorem State.leaveInvalid_invalidLeft (s : State) (e : WaitEntry) (rest : List WaitEntry) :
    InvalidLeft s (s.leaveInvalid e rest) e rest := by
  obtain ⟨l, g, hresult⟩ := s.recordLeft_eq e
  have hincomer : (s.recordLeft e).incomer = e.incomer := by rw [hresult]; rfl
  refine ⟨s.recordLeft e, s.raisedRun e.incomer, rfl, hincomer, by rw [hresult]; rfl, by rw [hresult]; rfl,
    by rw [hresult]; rfl, by rw [hresult]; rfl, by rw [hresult]; rfl, fun src hsrc he hr => ?_, fun hgap => ?_, ?_,
    fun k hk => ?_, ?_, fun p => ?_, ?_⟩
  · rw [State.recordLeft, hsrc, e.invalidResult_substituted he hr]
    exact ⟨rfl, rfl⟩
  · rw [State.recordLeft, e.invalidResult_gap hgap]
    exact ⟨rfl, rfl⟩
  · rw [s.leaveInvalid_eq, State.handOff_calc, hincomer, if_pos rfl, State.setCalc_calc, if_pos rfl]
  · rw [s.leaveInvalid_eq, State.handOff_calc, hincomer, if_neg hk, State.setCalc_calc, if_neg hk]
    rfl
  · rw [s.leaveInvalid_eq, State.handOff_posting, Posting.arrive_eq]
    rfl
  · rw [s.leaveInvalid_eq, State.handOff_port]
    exact (s.port p).raise_portRaised .result
  · rw [s.leaveInvalid_eq, State.handOff_eq]
    rfl

/-! ### What an IDLE engine takes (R20 to R22) -/

theorem State.takeEntry_idle {s : State} {e : WaitEntry} {rest : List WaitEntry} (hf : s.engine.flight = none)
    (hw : s.waitList = e :: rest) :
    s.takeEntry = if e.bank.isSome then s.beginTransform e rest else s.leaveInvalid e rest := by
  simp [State.takeEntry, hf, hw]

theorem State.takeEntries_engineTakes (ws : List WaitEntry) (s : State) (hf : s.engine.flight = none)
    (hw : s.waitList = ws) : EngineTakes ws s (State.takeEntries ws.length s) := by
  induction ws generalizing s with
  | nil => rfl
  | cons e rest ih =>
    unfold EngineTakes
    rw [List.length_cons, State.takeEntries, State.takeEntry_idle hf hw]
    split
    · exact State.takeEntries_busy rfl _
    · exact ⟨_, s.leaveInvalid_invalidLeft e rest, ih _ hf rfl⟩

theorem State.settleEngine_engineTakes {s : State} (hf : s.engine.flight = none) :
    EngineTakes s.waitList s s.settleEngine := s.takeEntries_engineTakes _ hf rfl

theorem State.settleEngine_engineSettles (s : State) : EngineSettles s s.settleEngine := by
  refine ⟨fun hbusy => ?_, State.settleEngine_engineTakes⟩
  obtain ⟨f, hf⟩ := Option.ne_none_iff_exists'.mp hbusy
  exact State.settleEngine_busy hf

theorem State.headStands_idle {s : State} {e : WaitEntry} {rest : List WaitEntry} (hf : s.engine.flight = none)
    (hw : s.waitList = e :: rest) (valid : Bool) : s.headStands valid = (e.bank.isSome == valid) := by
  simp [State.headStands, hf, hw]

/-- Settles O9. -/
theorem headEntriesAreTaken : Obligations.HeadEntriesAreTaken := by
  refine ⟨fun s e rest hf hw hb => ?_, fun s r rest hc hw => ?_⟩
  · have htake : s.takeEntry = s.beginTransform e rest := by rw [State.takeEntry_idle hf hw, if_pos hb]
    simp only [exec, execTransformBegin, State.headStands_idle hf hw, hb, htake]
    rfl
  · simp only [exec, execPostingTake, Posting.takeNext, hc, hw]

/-- Settles O10: the entry leaves, and the engine takes what stands behind it. -/
theorem invalidEntryIsSubstitutedOrGap : Obligations.InvalidEntryIsSubstitutedOrGap := by
  intro s e rest hf hw hb
  refine ⟨_, s.leaveInvalid e rest, ?_, s.leaveInvalid_invalidLeft e rest,
    State.settleEngine_engineTakes (s := s.leaveInvalid e rest) hf⟩
  have htake : s.takeEntry = s.leaveInvalid e rest := by
    rw [State.takeEntry_idle hf hw, if_neg]
    simp [hb]
  simp only [exec, execInvalidEntryLeave, State.headStands_idle hf hw, hb, htake]
  rfl

/-! ### Completions (R23, R51 to R53) -/

theorem State.freeBank_calc (s : State) (e : WaitEntry) (k : Incomer) : (s.freeBank e).calc k = s.calc k := by
  unfold State.freeBank
  split <;> rfl

theorem State.freeBank_assembler (s : State) {e : WaitEntry} {b : Fin 2} (hb : e.bank = some b) (k : Incomer) :
    (s.freeBank e).assembler k = if k = e.incomer then (s.assembler e.incomer).setBank b
      { (s.assembler e.incomer).bank b with held := false } else s.assembler k := by
  unfold State.freeBank
  rw [hb]
  exact s.setAssembler_assembler e.incomer k _

theorem State.freeBank_waitList (s : State) (e : WaitEntry) : (s.freeBank e).waitList = s.waitList := by
  unfold State.freeBank
  split <;> rfl

/-- The completion of a window with the record `r` formed of it: the source and the latest result, the bank, the record's
hand-off, and an IDLE engine (R23, R52, R53). -/
def State.completeWith (s : State) (f : Flight) (r : ResultRecord) : State :=
  { ((s.setCalc f.entry.incomer { s.calc f.entry.incomer with
        source := some (f.entry.sourceOf f.epoch r.limited r.figures.increments), invalidRun := 0 }).handOff r).freeBank
      f.entry with engine := { flight := none, limited := r.limited } }

theorem State.complete_eq (s : State) (f : Flight) : s.complete f = s.completeWith f (s.validResult f) := rfl

section
variable (s : State) (f : Flight) (r : ResultRecord)

theorem State.completeWith_flight : (s.completeWith f r).engine.flight = none := rfl

theorem State.completeWith_calc (k : Incomer) (hr : r.incomer = f.entry.incomer) :
    (s.completeWith f r).calc k = if k = f.entry.incomer then
      { source := some (f.entry.sourceOf f.epoch r.limited r.figures.increments), invalidRun := 0, latest := some r }
      else s.calc k := by
  have hengine (t : State) (x : Engine) : { t with engine := x }.calc k = t.calc k := rfl
  rw [State.completeWith, hengine, State.freeBank_calc, State.handOff_calc, hr]
  split <;> simp_all

theorem State.completeWith_assembler {b : Fin 2} (hb : f.entry.bank = some b) (k : Incomer) :
    (s.completeWith f r).assembler k = if k = f.entry.incomer then (s.assembler f.entry.incomer).setBank b
      { (s.assembler f.entry.incomer).bank b with held := false } else s.assembler k := by
  have hengine (t : State) (x : Engine) : { t with engine := x }.assembler k = t.assembler k := rfl
  simp only [State.completeWith, hengine, State.freeBank_assembler _ hb, State.handOff_assembler,
    State.setCalc_assembler]

theorem State.completeWith_posting : (s.completeWith f r).posting = postingWith s.posting r := by
  have hengine (t : State) (x : Engine) : { t with engine := x }.posting = t.posting := rfl
  rw [State.completeWith, hengine, State.freeBank_posting, State.handOff_posting, Posting.arrive_eq,
    State.setCalc_posting]

theorem State.completeWith_port (p : Port) : (s.completeWith f r).port p = (s.port p).raise .result := by
  have hengine (t : State) (x : Engine) : { t with engine := x }.port p = t.port p := rfl
  have hbank (t : State) : (t.freeBank f.entry).port p = t.port p := congrArg (·.get p) (t.freeBank_ports f.entry)
  rw [State.completeWith, hengine, hbank, State.handOff_port, State.setCalc_port]

theorem State.completeWith_waitList : (s.completeWith f r).waitList = s.waitList := by
  have hengine (t : State) (x : Engine) : { t with engine := x }.waitList = t.waitList := rfl
  rw [State.completeWith, hengine, State.freeBank_waitList]
  rfl

theorem State.completeWith_framingPath : FramingPath s (s.completeWith f r) := by
  have hengine (t : State) (x : Engine) : FramingPath t { t with engine := x } := rfl
  have hcalc (c : Calc) : FramingPath s (s.setCalc f.entry.incomer c) := rfl
  exact ((hcalc _).trans ((State.handOff_resultPath _ r).framingPath.trans (State.freeBank_framingPath _ _))).trans
    (hengine _ _)

end

/-- Settles O11: the completion with the record of its own figures, and what the engine then takes. -/
theorem completionFormsTheValidRecord : Obligations.CompletionFormsTheValidRecord := by
  intro s f b hf hb
  have hrows : s.rowsOf f.entry = ((s.assembler f.entry.incomer).bank b).rows := by simp [State.rowsOf, hb]
  have hincomer : (s.validResult f).incomer = f.entry.incomer := rfl
  have hexec : exec .transformCompletion s = .next (s.completeWith f (s.validResult f)).settleEngine := by
    simp only [exec, execTransformCompletion, hf, State.complete_eq]
  refine ⟨_, s.completeWith f (s.validResult f), hexec, ?_, s.completeWith_flight f _, ?_, fun k hk => ?_, ?_,
    fun zs hzs incs hincs r hr => ?_, fun p => ?_, ?_⟩
  · rw [← s.completeWith_waitList f (s.validResult f)]
    exact State.settleEngine_engineTakes (s.completeWith_flight f _)
  · rw [s.completeWith_assembler f _ hb, if_pos rfl]
  · rw [s.completeWith_assembler f _ hb, s.completeWith_calc f _ k hincomer, if_neg hk, if_neg hk]
    exact ⟨rfl, rfl⟩
  · rw [s.completeWith_calc f _ _ hincomer, if_pos rfl]
  · have hrecord : s.validResult f = r := by
      rw [hr, hincs, hzs, ← hrows]
      rfl
    rw [hrecord] at hincomer ⊢
    rw [s.completeWith_calc f _ _ hincomer, if_pos rfl, s.completeWith_posting, hr]
    exact ⟨rfl, rfl, rfl⟩
  · rw [s.completeWith_port]
    exact (s.port p).raise_portRaised .result
  · have hpath := s.completeWith_framingPath f (s.validResult f)
    unfold FramingPath at hpath
    rw [s.completeWith_waitList] at hpath
    exact hpath

end Sys2Proof.Machine

/-! Frames, markers and windows (chapter 1): what a receiver makes of a frame, what its assembler makes of what it passes
on, and the closes. -/

namespace Sys2Proof.Machine

/-! ### The frame and the receiver (R1 to R8) -/

theorem frameGood_iff (bytes : Vector Byte 15) : frameGood bytes = true ↔ crc8 (bytes.toList.take 14) = bytes[14] :=
  beq_iff_eq

theorem frameFlaws_eq (r : Receiver) (bytes : Vector Byte 15) :
    frameFlaws r bytes = (r.breaks (frameOf bytes) || (frameOf bytes).impaired) := by
  unfold frameFlaws Receiver.breaks
  cases r.expected <;> rfl

theorem execFrameArrival_interrupted {i : Incomer} {bytes : Vector Byte 15} {s : State}
    (h : s.retention.interrupted = true) : exec (.frameArrival i bytes) s = .next s := if_pos h

theorem execFrameArrival_bad {i : Incomer} {bytes : Vector Byte 15} {s : State} (h : s.retention.interrupted = false)
    (hcrc : crc8 (bytes.toList.take 14) ≠ bytes[14]) :
    exec (.frameArrival i bytes) s = .next (s.setReceiver i (s.receiver i).flaw) := by
  have hgood : ¬frameGood bytes = true := fun hg => hcrc ((frameGood_iff bytes).mp hg)
  simp only [exec, execFrameArrival, h, hgood]
  rfl

theorem execFrameArrival_good {i : Incomer} {bytes : Vector Byte 15} {s : State} (h : s.retention.interrupted = false)
    (hcrc : crc8 (bytes.toList.take 14) = bytes[14]) :
    exec (.frameArrival i bytes) s =
      .next ((s.setReceiver i ((s.receiver i).takeFrame s.now (frameOf bytes)).1).deliver i
        ((s.receiver i).takeFrame s.now (frameOf bytes)).2) := by
  simp only [exec, execFrameArrival, h, (frameGood_iff bytes).mpr hcrc]
  rfl

theorem Receiver.loaded_state (r : Receiver) (f : Frame) :
    (r.loaded f).state = if r.state = .down then .acquiring else r.state := rfl

theorem Receiver.afterMarker_ne_down {r : Receiver} (h : r.state ≠ .down) (now : Nat) :
    (r.afterMarker now).1 ≠ .down := by
  unfold Receiver.afterMarker
  split
  · unfold Receiver.judged
    split
    · exact absurd ‹_› h
    · split <;> nofun
    · split
      · nofun
      · split <;> nofun
  · exact h

/-- A frame with good CRC loads the silence counter and the expected sequence number, and wakes the receiver (R2 to R4). -/
theorem Receiver.takeFrame_loads (r : Receiver) (now : Nat) (f : Frame) :
    (r.takeFrame now f).1.silence = 5000 ∧ (r.takeFrame now f).1.expected = some (f.sequence + 1)
      ∧ (r.takeFrame now f).1.state ≠ .down := by
  unfold Receiver.takeFrame
  split
  · exact ⟨rfl, rfl, Receiver.afterMarker_ne_down (r.loaded_state_ne_down f) now⟩
  · unfold Receiver.takeOrdinary
    split
    · exact ⟨rfl, rfl, r.loaded_state_ne_down f⟩
    · split
      · exact ⟨rfl, rfl, r.loaded_state_ne_down f⟩
      · exact ⟨rfl, rfl, r.loaded_state_ne_down f⟩

theorem Receiver.isMarker_iff (r : Receiver) (now : Nat) (f : Frame) :
    r.isMarker now f = true ↔ f.cycleStart = true ∧ ∀ m, r.lastMarker = some m → m + 150000 ≤ now := by
  unfold Receiver.isMarker
  rw [Bool.and_eq_true]
  refine and_congr_right fun _ => ?_
  cases r.lastMarker with
  | none => simp
  | some m =>
    simp only [decide_eq_true_eq, Option.some.injEq, forall_eq']
    exact Iff.rfl

theorem takeFrame_of_marker {s : State} {i : Incomer} {bytes : Vector Byte 15} (h : ArrivesAsMarker s i bytes) :
    (s.receiver i).takeFrame s.now (frameOf bytes) = (s.receiver i).takeMarker s.now (frameOf bytes) := by
  obtain ⟨_, _, hstart, hlast⟩ := h
  exact if_pos (((s.receiver i).isMarker_iff s.now _).mpr ⟨hstart, hlast⟩)

theorem takeFrame_of_ordinary {s : State} {i : Incomer} {bytes : Vector Byte 15}
    (h : ArrivesAsOrdinary s i bytes) :
    (s.receiver i).takeFrame s.now (frameOf bytes) = (s.receiver i).takeOrdinary (frameOf bytes) := by
  obtain ⟨_, _, hnot⟩ := h
  refine if_neg fun hm => ?_
  obtain ⟨hstart, hlast⟩ := ((s.receiver i).isMarker_iff s.now _).mp hm
  obtain hclear | ⟨m, hm, hearly⟩ := hnot
  · exact nomatch hstart.symm.trans hclear
  · have := hlast m hm
    omega

/-! #### Ordinary frames (R2, R4 to R6) -/

/-- The cycle after a frame that is no marker (R6). -/
def CycleTally.take (c : CycleTally) (flaws : Bool) : CycleTally :=
  if c.frames < 256 then { c with frames := c.frames + 1, flawed := c.flawed || flaws } else { c with flawed := true }

theorem Receiver.takeOrdinary_fst (r : Receiver) (f : Frame) : (r.takeOrdinary f).1 = { r.loaded f with
    cycle := r.cycle.map (·.take (r.breaks f || f.impaired || f.cycleStart)) } := by
  unfold Receiver.takeOrdinary CycleTally.take
  cases hc : r.cycle with
  | none => simp [Receiver.loaded, hc]
  | some c =>
    have hframes : (c.frames < Config.cycleFrames) = (c.frames < 256) := rfl
    simp only [hframes, Option.map_some]
    split
    · simp [Bool.or_assoc]
    · rfl

theorem Receiver.takeOrdinary_snd (r : Receiver) (f : Frame) :
    ((∃ c, r.cycle = some c ∧ 256 ≤ c.frames) → (r.takeOrdinary f).2 = .nothing)
      ∧ (¬(∃ c, r.cycle = some c ∧ 256 ≤ c.frames) → (r.takeOrdinary f).2 = .frame f.row) := by
  unfold Receiver.takeOrdinary
  cases hc : r.cycle with
  | none => simp
  | some c =>
    by_cases hlt : c.frames < 256
    · simp [Config.cycleFrames, hlt]
    · simp [Config.cycleFrames, hlt]

/-! #### Markers (R5, R7, R8) -/

theorem CycleTally.sound_iff (c : CycleTally) (now : Nat) : c.sound now = true ↔ SoundCycle c now := by
  simp only [CycleTally.sound, Bool.and_eq_true, beq_iff_eq, Bool.not_eq_true', decide_eq_true_eq, SoundCycle, and_assoc]
  exact Iff.rfl

theorem CycleTally.good_iff (c : CycleTally) (now : Nat) : c.good now = true ↔ GoodCycle c now := by
  rw [CycleTally.good, Bool.and_eq_true, beq_iff_eq, CycleTally.sound_iff]
  exact Iff.rfl

theorem Receiver.takeMarker_fst (r : Receiver) (now : Nat) (f : Frame) : (r.takeMarker now f).1 = { r.loaded f with
    state := ((r.loaded f).afterMarker now).1, badRun := ((r.loaded f).afterMarker now).2, lastMarker := some now,
    cycle := some { start := now, openedIn := ((r.loaded f).afterMarker now).1, frames := 1,
                    flawed := r.breaks f || f.impaired } } := rfl

theorem Receiver.takeMarker_snd (r : Receiver) (now : Nat) (f : Frame) :
    (r.takeMarker now f).2 = .marker (r.cycle.map (·.good now)) f.row := rfl

theorem Receiver.afterMarker_none {r : Receiver} (hc : r.cycle = none) (now : Nat) :
    r.afterMarker now = (r.state, r.badRun) := by simp [Receiver.afterMarker, hc]

/-- In LOCKED the bad-cycle run follows the verdict (R8). -/
theorem Receiver.afterMarker_locked {r : Receiver} {c : CycleTally} (hc : r.cycle = some c) (hs : r.state = .locked)
    (now : Nat) : r.afterMarker now = if c.good now then (.locked, 0)
      else if r.badRun + 1 < 3 then (.locked, r.badRun + 1) else (.acquiring, 0) := by
  simp only [Receiver.afterMarker, hc, Receiver.judged, hs]
  rfl

/-- In ACQUIRING a cycle that meets tests 2 to 4 brings LOCKED (R8). -/
theorem Receiver.afterMarker_acquiring {r : Receiver} {c : CycleTally} (hc : r.cycle = some c)
    (hs : r.state = .acquiring) (now : Nat) :
    r.afterMarker now = if c.sound now then (.locked, 0) else (.acquiring, 0) := by
  simp only [Receiver.afterMarker, hc, Receiver.judged, hs]

theorem Receiver.takeMarker_markerTaken (r : Receiver) (now : Nat) (bytes : Vector Byte 15) :
    MarkerTaken r (r.takeMarker now (frameOf bytes)).1 now bytes := by
  have hcycle : (r.loaded (frameOf bytes)).cycle = r.cycle := rfl
  have hrun : (r.loaded (frameOf bytes)).badRun = r.badRun := rfl
  have hstate := r.loaded_state (frameOf bytes)
  rw [Receiver.takeMarker_fst]
  refine ⟨rfl, rfl, rfl, fun hc => ?_, fun c hc hs => ?_, fun c hc hs => ?_, ?_⟩
  · dsimp only
    rw [Receiver.afterMarker_none (hcycle.trans hc), hstate, hrun]
    exact ⟨rfl, rfl⟩
  · have hlocked : (r.loaded (frameOf bytes)).state = .locked := by rw [hstate, hs]; rfl
    dsimp only
    rw [Receiver.afterMarker_locked (hcycle.trans hc) hlocked, hrun]
    refine ⟨fun hg => ?_, fun hg hlt => ?_, fun hg hge => ?_⟩
    · rw [if_pos ((c.good_iff now).mpr hg)]
      exact ⟨rfl, rfl⟩
    · rw [if_neg (mt (c.good_iff now).mp hg), if_pos hlt]
      exact ⟨rfl, rfl⟩
    · rw [if_neg (mt (c.good_iff now).mp hg), if_neg (Nat.not_lt.mpr hge)]
      exact ⟨rfl, rfl⟩
  · have hacquiring : (r.loaded (frameOf bytes)).state = .acquiring := by
      rw [hstate]
      cases hr : r.state <;> simp_all
    dsimp only
    rw [Receiver.afterMarker_acquiring (hcycle.trans hc) hacquiring]
    refine ⟨fun hg => ?_, fun hg => ?_⟩
    · rw [if_pos ((c.sound_iff now).mpr hg)]
      exact ⟨rfl, rfl⟩
    · rw [if_neg (mt (c.sound_iff now).mp hg)]
      exact ⟨rfl, rfl⟩
  · rw [frameFlaws_eq]

/-! ### The window assembler (R9 to R13) -/

theorem Bank.put_getElem? (k : Bank) {n : Nat} (row : Row) (h : n ≤ k.rows.length) (m : Nat) :
    (k.put n row).rows[m]? = if m = n then some row else k.rows[m]? := by
  unfold Bank.put
  dsimp only
  split
  · rename_i hlt
    rw [List.getElem?_set]
    by_cases hm : m = n
    · simp [hm, hlt]
    · simp [hm, Ne.symm hm]
  · have hn : n = k.rows.length := by omega
    rw [hn, List.getElem?_append]
    split
    · rename_i hlt
      rw [if_neg (by omega)]
    · by_cases hm : m = k.rows.length
      · simp [hm]
      · rw [if_neg hm, List.getElem?_eq_none (by simp; omega), List.getElem?_eq_none (by omega)]

theorem Assembler.write_sampleWritten (a : Assembler) (w : OpenWindow) (row : Row) :
    SampleWritten a (a.write w row) w row := by
  have hdepth : Config.bankDepth = 2048 := rfl
  refine ⟨fun hfull => if_neg (by omega), fun hlt hrows => ⟨?_, a.write_filling w row, a.write_nextWindow w row, ?_,
    fun k => ?_, ?_⟩⟩
  · rw [Assembler.write_state, hdepth, if_pos hlt]
  · rw [Assembler.write_bank, if_pos ⟨rfl, hlt⟩]
    rfl
  · rw [Assembler.write_bank, if_pos ⟨rfl, hlt⟩, Bank.put_getElem? _ _ hrows]
  · rw [Assembler.write_bank, if_neg]
    rintro ⟨hother, _⟩
    revert hother
    generalize a.filling = b
    revert b
    decide

theorem State.setAssembler_same (s : State) (i : Incomer) : s.setAssembler i (s.assembler i) = s := by
  cases i <;> rfl

theorem State.setReceiver_same (s : State) (i : Incomer) : s.setReceiver i (s.receiver i) = s := by
  cases i <;> rfl

/-- The samples of a marker written to the open window of a state. -/
theorem markerWritten_setAssembler (s : State) (i : Incomer) (q : Receiver) (w : OpenWindow) (bytes : Vector Byte 15) :
    MarkerWritten s ((s.setReceiver i q).setAssembler i ((s.assembler i).write w (frameRow bytes))) i w bytes := by
  have hreceiver : ((s.setReceiver i q).setAssembler i ((s.assembler i).write w (frameRow bytes))).receiver i = q := by
    rw [State.setAssembler_receiver, State.setReceiver_receiver, if_pos rfl]
  refine ⟨?_, ?_⟩
  · rw [State.setAssembler_assembler, if_pos rfl]
    exact Assembler.write_sampleWritten _ _ _
  · rw [hreceiver, State.setAssembler_assembler, if_pos rfl]

/-! ### Closes (R10 to R15) -/

theorem latchedLimit_eq (s : State) : latchedLimit s = s.joint.committed.timeLimit := by
  unfold latchedLimit Table.timeLimit Config.limit60 Config.limit50
  split <;> rfl

theorem OpenWindow.validAt_markers (w : OpenWindow) :
    w.validAt .markers = true ↔ w.aligned = true ∧ w.good = true := by
  simp [OpenWindow.validAt]

@[simp] theorem OpenWindow.validAt_timeLimit (w : OpenWindow) : w.validAt .timeLimit = false := rfl

/-- A close is the stamped window at the tail of the wait list, the bank of a valid window held, the next window open, and
then what the engine takes (R10 to R15, R20). -/
theorem State.closeWindow_eq (s : State) (i : Incomer) (w : OpenWindow) (cause : WindowCause) (tick : Nat)
    (v : Option (Fin 2)) (hv : v = if w.validAt cause then some (s.assembler i).filling else none) :
    s.closeWindow i w cause tick = (windowClosed s i w cause tick v).settleEngine := by
  unfold State.closeWindow windowClosed Assembler.stamp
  rw [latchedLimit_eq]
  generalize s.assembler i = a at hv ⊢
  obtain ⟨state, bank0, bank1, filling, n⟩ := a
  unfold Assembler.afterClose
  cases hvalid : w.validAt cause
  · rw [hvalid] at hv
    subst hv
    rfl
  · rw [hvalid] at hv
    subst hv
    match filling with
    | 0 => rfl
    | 1 => rfl

theorem windowClosed_assembler (s : State) (i : Incomer) (w : OpenWindow) (cause : WindowCause) (tick : Nat)
    (v : Option (Fin 2)) : ((windowClosed s i w cause tick v).assembler i).state =
      .opened { start := tick, limit := latchedLimit s, fill := 0, markers := 0, aligned := cause == .markers,
                good := cause == .markers } := by
  cases i <;> cases v <;> rfl

theorem State.settleEngine_assembler (s : State) (i : Incomer) : s.settleEngine.assembler i = s.assembler i := by
  rw [State.assembler, (s.settleEngine_resultPath.leaves (f := { results := true, posting := true }) rfl rfl).assemblers
    rfl]
  rfl

theorem State.takeOpeningMarker_opened {s : State} {i : Incomer} {w : OpenWindow}
    (h : (s.assembler i).state = .opened w) (row : Row) :
    s.takeOpeningMarker i row = s.setAssembler i ((s.assembler i).write { w with aligned := true, good := true } row) := by
  simp [State.takeOpeningMarker, h]

/-- A marker at the tick of a close is sample 0 of the window that opens there (R10). -/
theorem markerWritten_afterClose {s : State} {i : Incomer} {w : OpenWindow} {cause : WindowCause} {tick : Nat}
    {v : Option (Fin 2)} {m : State} (hm : m = (windowClosed s i w cause tick v).settleEngine)
    (bytes : Vector Byte 15) :
    MarkerWritten m (m.takeOpeningMarker i (frameRow bytes)) i (alignedWindow s tick) bytes := by
  have hstate : (m.assembler i).state = .opened {
      start := tick, limit := latchedLimit s, fill := 0, markers := 0, aligned := cause == .markers,
      good := cause == .markers } := by
    rw [hm, State.settleEngine_assembler]
    exact windowClosed_assembler s i w cause tick v
  have hwritten := markerWritten_setAssembler m i (m.receiver i) (alignedWindow s tick) bytes
  rw [State.setReceiver_same] at hwritten
  rw [State.takeOpeningMarker_opened hstate]
  exact hwritten

/-! ### What the assembler makes of a marker (R9 to R13) -/

section
variable {s : State} {i : Incomer} {verdict : Option Bool} {row : Row}

theorem State.deliver_marker_disabled (h : (s.assembler i).state = .disabled) :
    s.deliver i (.marker verdict row) = s := by simp [State.deliver, h]

theorem State.deliver_marker_awaiting (h : (s.assembler i).state = .awaiting) :
    s.deliver i (.marker verdict row) = s.setAssembler i ((s.assembler i).write (alignedWindow s s.now) row) := by
  simp only [State.deliver, h]
  rw [alignedWindow, latchedLimit_eq]
  rfl

variable {w : OpenWindow}

theorem State.deliver_marker_start (h : (s.assembler i).state = .opened w) (hs : w.start = s.now) :
    s.deliver i (.marker verdict row) =
      s.setAssembler i ((s.assembler i).write { w with aligned := true, good := true } row) := by
  simp only [State.deliver, h, if_pos hs, State.takeOpeningMarker_opened h]

theorem State.deliver_marker_eighth (h : (s.assembler i).state = .opened w) (hs : w.start ≠ s.now)
    (hm : 8 ≤ w.markers + 1) : s.deliver i (.marker verdict row) =
      (s.closeWindow i (w.count verdict) .markers s.now).takeOpeningMarker i row := by
  have hlimit : Config.windowMarkers ≤ w.markers + 1 := hm
  simp only [State.deliver, h, if_neg hs, if_pos hlimit]

theorem State.deliver_marker_limit (h : (s.assembler i).state = .opened w) (hs : w.start ≠ s.now)
    (hm : w.markers + 1 < 8) (hl : w.start + w.limit = s.now) : s.deliver i (.marker verdict row) =
      (s.closeWindow i w .timeLimit s.now).takeOpeningMarker i row := by
  have hlimit : ¬Config.windowMarkers ≤ w.markers + 1 := Nat.not_le.mpr hm
  simp only [State.deliver, h, if_neg hs, if_neg hlimit, if_pos hl]

theorem State.deliver_marker_counted (h : (s.assembler i).state = .opened w) (hs : w.start ≠ s.now)
    (hm : w.markers + 1 < 8) (hl : w.start + w.limit ≠ s.now) : s.deliver i (.marker verdict row) =
      s.setAssembler i ((s.assembler i).write (w.count verdict) row) := by
  have hlimit : ¬Config.windowMarkers ≤ w.markers + 1 := Nat.not_le.mpr hm
  simp only [State.deliver, h, if_neg hs, if_neg hlimit, if_neg hl]

end

/-- A verdict is good exactly for a good cycle (R7, R13). -/
theorem verdict_good_iff (r : Receiver) (now : Nat) :
    r.cycle.map (·.good now) = some true ↔ ∃ c, r.cycle = some c ∧ GoodCycle c now := by
  rw [Option.map_eq_some_iff]
  simp only [CycleTally.good_iff]

/-! ### The statements -/

theorem State.deliver_receiver (s : State) (i : Incomer) (d : Delivery) (k : Incomer) :
    (s.deliver i d).receiver k = s.receiver k := by
  have l := (s.deliver_framingPath i d).leaves (f := { assemblers := true, results := true, posting := true })
    rfl rfl rfl
  rw [State.receiver, l.receivers rfl, State.receiver]

theorem State.closeWindow_assembler_ne (s : State) {i k : Incomer} (hk : k ≠ i) (w : OpenWindow) (c : WindowCause)
    (tick : Nat) : (s.closeWindow i w c tick).assembler k = s.assembler k := by
  have hlist (t : State) (ws : List WaitEntry) : { t with waitList := ws }.assembler k = t.assembler k := rfl
  rw [State.closeWindow, State.settleEngine_assembler, hlist, State.setAssembler_assembler, if_neg hk]

theorem State.takeOpeningMarker_assembler_ne (s : State) {i k : Incomer} (hk : k ≠ i) (row : Row) :
    (s.takeOpeningMarker i row).assembler k = s.assembler k := by
  unfold State.takeOpeningMarker
  split
  · rw [State.setAssembler_assembler, if_neg hk]
  · rfl

/-- What an assembler does leaves the other incomer's (R9 to R13). -/
theorem State.deliver_assembler_ne (s : State) {i k : Incomer} (hk : k ≠ i) (d : Delivery) :
    (s.deliver i d).assembler k = s.assembler k := by
  unfold State.deliver
  dsimp only
  split
  · rw [State.setAssembler_assembler, if_neg hk]
  · rw [State.setAssembler_assembler, if_neg hk]
  · split
    · exact s.takeOpeningMarker_assembler_ne hk _
    · split
      · rw [State.takeOpeningMarker_assembler_ne _ hk, State.closeWindow_assembler_ne _ hk]
      · split
        · rw [State.takeOpeningMarker_assembler_ne _ hk, State.closeWindow_assembler_ne _ hk]
        · rw [State.setAssembler_assembler, if_neg hk]
  · rfl

/-- A frame that is no marker is written to an open window, and a window not open discards it (R9). -/
theorem State.deliver_frame (s : State) (i : Incomer) (row : Row) :
    (∃ w, (s.assembler i).state = .opened w ∧ s.deliver i (.frame row) = s.setAssembler i ((s.assembler i).write w row))
      ∨ ((∀ w, (s.assembler i).state ≠ .opened w) ∧ s.deliver i (.frame row) = s) := by
  cases h : (s.assembler i).state with
  | opened w => exact .inl ⟨w, rfl, by simp only [State.deliver, h]⟩
  | awaiting => exact .inr ⟨nofun, by simp only [State.deliver, h]⟩
  | disabled => exact .inr ⟨nofun, by simp only [State.deliver, h]⟩

theorem execFrameArrival_ordinary {i : Incomer} {bytes : Vector Byte 15} {s : State}
    (h : ArrivesAsOrdinary s i bytes) : exec (.frameArrival i bytes) s =
      .next ((s.setReceiver i ((s.receiver i).takeOrdinary (frameOf bytes)).1).deliver i
        ((s.receiver i).takeOrdinary (frameOf bytes)).2) := by
  rw [← takeFrame_of_ordinary h]
  obtain ⟨hint, hcrc, _⟩ := h
  exact execFrameArrival_good hint hcrc

theorem execFrameArrival_marker {i : Incomer} {bytes : Vector Byte 15} {s : State} (h : ArrivesAsMarker s i bytes) :
    exec (.frameArrival i bytes) s =
      .next ((s.setReceiver i ((s.receiver i).takeMarker s.now (frameOf bytes)).1).deliver i
        (.marker ((s.receiver i).cycle.map (·.good s.now)) (frameRow bytes))) := by
  have htaken := takeFrame_of_marker h
  obtain ⟨hint, hcrc, _⟩ := h
  rw [execFrameArrival_good hint hcrc, htaken]
  rfl

/-- The receiver after a frame that is no marker, field by field (R2, R4, R6). -/
def Receiver.ordinary (r : Receiver) (bytes : Vector Byte 15) : Receiver :=
  { r with
    state := if r.state = .down then .acquiring else r.state
    silence := 5000
    expected := some (bytes[0].extractLsb' 4 4 + 1)
    cycle := r.cycle.map fun c =>
      if c.frames < 256 then
        { c with frames := c.frames + 1
                 flawed := c.flawed || frameFlaws r bytes || bytes[0].getLsbD 3 }
      else { c with flawed := true } }

theorem takeOrdinary_frameOf (r : Receiver) (bytes : Vector Byte 15) :
    (r.takeOrdinary (frameOf bytes)).1 = r.ordinary bytes := by
  rw [Receiver.takeOrdinary_fst]
  unfold CycleTally.take Receiver.ordinary
  simp only [frameFlaws_eq, ← Bool.or_assoc]
  rfl

/-- Settles O4. -/
theorem frameIsCheckedBeforeItIsTaken : Obligations.FrameIsCheckedBeforeItIsTaken := by
  intro i bytes s
  refine ⟨execFrameArrival_interrupted, execFrameArrival_bad, fun hint hcrc => ?_, fun hord surplus hsurplus => ?_⟩
  · refine ⟨_, execFrameArrival_good hint hcrc, ?_⟩
    obtain ⟨hsilence, hexpected, hup⟩ := (s.receiver i).takeFrame_loads s.now (frameOf bytes)
    generalize (s.receiver i).takeFrame s.now (frameOf bytes) = q at hsilence hexpected hup ⊢
    have l := ((s.setReceiver i q.1).deliver_framingPath i q.2).leaves
      (f := { assemblers := true, results := true, posting := true }) rfl rfl rfl
    rw [State.deliver_receiver, State.setReceiver_receiver, if_pos rfl]
    refine ⟨hsilence, hexpected, hup, fun k hk => ⟨?_, ?_⟩, l.accounts rfl, l.joint rfl, l.time rfl, l.freeze rfl,
      l.retention rfl⟩
    · rw [State.deliver_receiver, State.setReceiver_receiver, if_neg hk]
    · rw [State.deliver_assembler_ne _ hk]
      rfl
  · refine ⟨_, execFrameArrival_ordinary hord, ?_⟩
    obtain ⟨hover, hunder⟩ := (s.receiver i).takeOrdinary_snd (frameOf bytes)
    rw [← hsurplus] at hover hunder
    rw [takeOrdinary_frameOf]
    change _ = (s.setReceiver i ((s.receiver i).ordinary bytes)).setAssembler i _ ∧ _
    generalize (s.receiver i).ordinary bytes = q
    by_cases hs : surplus
    · rw [hover hs]
      have hnothing : (s.setReceiver i q).deliver i .nothing = s.setReceiver i q := rfl
      rw [hnothing]
      exact ⟨((s.setReceiver i q).setAssembler_same i).symm, fun _ => rfl, fun hn => absurd hs hn⟩
    · rw [hunder hs]
      have hsame : (s.setReceiver i q).assembler i = s.assembler i := rfl
      obtain ⟨w, hw, he⟩ | ⟨hw, he⟩ := (s.setReceiver i q).deliver_frame i (frameOf bytes).row <;> rw [he]
      · rw [hsame] at hw ⊢
        simp only [State.setAssembler_assembler, if_true]
        refine ⟨trivial, fun h => absurd h hs, fun _ => ⟨fun v hv => ?_, fun h => absurd hw (h w)⟩⟩
        cases hw.symm.trans hv
        exact (s.assembler i).write_sampleWritten w _
      · rw [hsame] at hw
        exact ⟨((s.setReceiver i q).setAssembler_same i).symm, fun _ => rfl,
          fun _ => ⟨fun v hv => absurd hv (hw v), fun _ => rfl⟩⟩

/-- Settles O5: the receiver judges the cycle, and the assembler meets the marker by its own state. -/
theorem markerInLockedJudgesTheCycle : Obligations.MarkerInLockedJudgesTheCycle := by
  intro i bytes s hm
  have htaken := (s.receiver i).takeMarker_markerTaken s.now bytes
  refine ⟨_, execFrameArrival_marker hm, ?_⟩
  generalize ((s.receiver i).takeMarker s.now (frameOf bytes)).1 = q at htaken ⊢
  have hq (d : Delivery) : ((s.setReceiver i q).deliver i d).receiver i = q := by
    rw [State.deliver_receiver, State.setReceiver_receiver, if_pos rfl]
  have hwritten (w : OpenWindow) := markerWritten_setAssembler s i q w bytes
  rw [hq]
  refine ⟨htaken, fun hs => ?_, fun hs => ?_, fun w hw => ⟨fun hstart => ?_, fun hstart hcount hlim => ?_,
    fun hstart hcount hlim => ?_⟩⟩
  · exact State.deliver_marker_disabled (s := s.setReceiver i q) hs
  · rw [State.deliver_marker_awaiting (s := s.setReceiver i q) hs]
    exact hwritten _
  · rw [State.deliver_marker_start (s := s.setReceiver i q) hw hstart]
    exact hwritten _
  · rw [State.deliver_marker_counted (s := s.setReceiver i q) hw hstart hcount hlim]
    refine ⟨w.good && (s.receiver i).cycle.map (·.good s.now) == some true, ?_, hwritten _⟩
    rw [Bool.and_eq_true, beq_iff_eq, verdict_good_iff]
  · rw [State.deliver_marker_limit (s := s.setReceiver i q) hw hstart hcount hlim]
    have hclose := (s.setReceiver i q).closeWindow_eq i w .timeLimit s.now none rfl
    refine ⟨_, State.settleEngine_engineSettles _, ?_⟩
    rw [State.setReceiver_now, hclose]
    exact markerWritten_afterClose rfl bytes

/-- Settles O6: the close of the counted window, what the engine takes, and the marker in the next window. -/
theorem eighthMarkerClosesTheWindow : Obligations.EighthMarkerClosesTheWindow := by
  intro i bytes s w v hm hw hstart hcount valid hvalid hsome hnone
  have harrives := execFrameArrival_marker hm
  generalize ((s.receiver i).takeMarker s.now (frameOf bytes)).1 = q at harrives
  have hv : v = if (w.count ((s.receiver i).cycle.map (·.good s.now))).validAt .markers
      then some ((s.setReceiver i q).assembler i).filling else none := by
    have hiff : (w.count ((s.receiver i).cycle.map (·.good s.now))).validAt .markers = true ↔ valid := by
      rw [OpenWindow.validAt_markers, hvalid, ← verdict_good_iff]
      simp only [OpenWindow.count, Bool.and_eq_true, beq_iff_eq]
    split
    · exact hsome (hiff.mp ‹_›)
    · exact hnone (mt hiff.mpr ‹_›)
  have hclose (row : Row) : (s.setReceiver i q).deliver i (.marker ((s.receiver i).cycle.map (·.good s.now)) row) =
      (windowClosed (s.setReceiver i q) i w .markers s.now v).settleEngine.takeOpeningMarker i row := by
    rw [State.deliver_marker_eighth (s := s.setReceiver i q) hw (Nat.ne_of_lt hstart) (by omega), State.setReceiver_now,
      State.closeWindow_eq _ _ _ _ _ v hv]
    rfl
  have hq (row : Row) :
      ((windowClosed (s.setReceiver i q) i w .markers s.now v).settleEngine.takeOpeningMarker i row).receiver i = q := by
    rw [← hclose, State.deliver_receiver, State.setReceiver_receiver, if_pos rfl]
  rw [hclose] at harrives
  refine ⟨_, _, harrives, ?_, markerWritten_afterClose rfl bytes⟩
  rw [hq]
  exact State.settleEngine_engineSettles (windowClosed (s.setReceiver i q) i w .markers s.now v)

/-- Settles O7. -/
theorem silenceAndTimeLimitTakeEffect : Obligations.SilenceAndTimeLimitTakeEffect := by
  intro i s
  refine ⟨fun hup hzero => ?_, fun w hw hlim => ?_⟩
  · have hsilent : (s.receiver i).silent = true := by simp [Receiver.silent, hup, hzero]
    simp only [exec, execSilenceExpiry, hsilent]
    rfl
  · have hreached : s.limitReached i = some w := by simp [State.limitReached, hw, hlim]
    refine ⟨s.closeWindow i w .timeLimit (w.start + w.limit), by simp only [exec, execTimeLimitClose, hreached], ?_⟩
    rw [s.closeWindow_eq i w .timeLimit _ none rfl]
    exact State.settleEngine_engineSettles _

end Sys2Proof.Machine

/-! Bounds of the arithmetic of the measurement path (R29, R32, R34, R39 to R50), and the calibration that changes nothing
(R31). -/

namespace Sys2Proof.Machine

/-! ### Rounding and saturation -/

theorem saturate_natAbs_le (x : Int) : (saturate Config.phasorMax x).1.natAbs ≤ 8388607 := by
  unfold saturate Config.phasorMax
  split
  · exact le_rfl
  · split
    · exact le_rfl
    · dsimp only
      omega

theorem saturate_of_natAbs_le {x : Int} (h : x.natAbs ≤ 8388607) : saturate Config.phasorMax x = (x, false) := by
  unfold saturate Config.phasorMax
  rw [if_neg (by omega), if_neg (by omega)]

/-- A rounded quotient lies within half a divisor of the exact one. -/
theorem roundDiv_natAbs_le (n : Int) {d : Int} (hd : d ≠ 0) :
    (roundDiv n d).natAbs ≤ (2 * n.natAbs + d.natAbs) / (2 * d.natAbs) := by
  have hsign (x : Int) : x.sign.natAbs ≤ 1 := by
    obtain h | h | h := Int.sign_trichotomy x <;> rw [h] <;> decide
  unfold roundDiv
  rw [if_neg hd, Int.natAbs_mul, Int.natAbs_mul, Int.natAbs_natCast]
  calc n.sign.natAbs * d.sign.natAbs * ((2 * n.natAbs + d.natAbs) / (2 * d.natAbs))
      ≤ 1 * 1 * ((2 * n.natAbs + d.natAbs) / (2 * d.natAbs)) :=
        Nat.mul_le_mul_right _ (Nat.mul_le_mul (hsign n) (hsign d))
    _ = (2 * n.natAbs + d.natAbs) / (2 * d.natAbs) := by rw [Nat.mul_one, Nat.one_mul]

theorem roundDiv_mul_self (x : Int) {d : Nat} (hd : 0 < d) : roundDiv (x * d) d = x := by
  have hne : (d : Int) ≠ 0 := by omega
  have hsign : (x * d).sign * (d : Int).sign = x.sign := by
    rw [Int.sign_mul, Int.sign_eq_one_of_pos (by omega : (0 : Int) < d), mul_one, mul_one]
  have hquotient : (2 * (x * d).natAbs + (d : Int).natAbs) / (2 * (d : Int).natAbs) = x.natAbs := by
    rw [Int.natAbs_mul, Int.natAbs_natCast, show 2 * (x.natAbs * d) + d = d + x.natAbs * (2 * d) by ring,
      Nat.add_mul_div_right _ _ (by omega), Nat.div_eq_of_lt (by omega), Nat.zero_add]
  unfold roundDiv
  rw [if_neg hne, hsign, hquotient, Int.sign_mul_natAbs]

/-! ### Unity calibration (O14) -/

theorem cosTurn_zero : cosTurn 0 = 65536 := by decide +kernel

theorem sinTurn_zero : sinTurn 0 = 0 := by decide +kernel

theorem rotation_zero (h : Nat) : rotation 0 h = 0 := by simp [rotation]

theorem gainStep_unity {z : Phasor} (hre : z.re.natAbs ≤ 8388607) (him : z.im.natAbs ≤ 8388607) :
    gainStep 32768 z = (z, false) := by
  have hg : ((32768 : Word).toNat : Int) = ((32768 : Nat) : Int) := rfl
  unfold gainStep
  rw [hg, show (32768 : Int) = ((32768 : Nat) : Int) from rfl, roundDiv_mul_self _ (by omega),
    roundDiv_mul_self _ (by omega), saturate_of_natAbs_le hre, saturate_of_natAbs_le him]
  rfl

theorem skewStep_unity (h : Nat) {z : Phasor} (hre : z.re.natAbs ≤ 8388607) (him : z.im.natAbs ≤ 8388607) :
    skewStep 0 h z = (z, false) := by
  unfold skewStep
  dsimp only
  rw [rotation_zero, cosTurn_zero, sinTurn_zero, mul_zero, mul_zero, sub_zero, zero_add,
    show (65536 : Int) = ((65536 : Nat) : Int) from rfl, roundDiv_mul_self _ (by omega),
    roundDiv_mul_self _ (by omega), saturate_of_natAbs_le hre, saturate_of_natAbs_le him]
  rfl

/-- Settles O14. -/
theorem unityCalibrationChangesNothing : Obligations.UnityCalibrationChangesNothing := by
  intro h z l hre him
  unfold calibrate
  dsimp only
  rw [gainStep_unity hre him, skewStep_unity h hre him, Bool.or_false, Bool.or_false]

/-! ### Phasors (R29, R32, R34) -/

/-- Both components lie within ±8,388,607. -/
def Phasor.InRange (z : Phasor) : Prop := z.re.natAbs ≤ 8388607 ∧ z.im.natAbs ≤ 8388607

theorem calibrate_inRange (g : Word) (d : BitVec 12) (h : Nat) (raw : Phasor × Bool) :
    (calibrate g d h raw).1.InRange := ⟨saturate_natAbs_le _, saturate_natAbs_le _⟩

/-- A phasor set in range: every component within its bounds, and at most 50 orders a channel. -/
structure SetInRange (zs : List (List Phasor)) : Prop where
  phasors : ∀ c ∈ zs, ∀ z ∈ c, z.InRange
  orders : ∀ c ∈ zs, c.length ≤ 50

theorem phasorSet_inRange (t : Table) (i : Incomer) (rows : List Row) : SetInRange (phasorSet t i rows).1 := by
  have channel : ∀ c ∈ (phasorSet t i rows).1, ∃ k, c = (channelPhasors t i rows k).1 := by
    intro c hc
    simp only [phasorSet, List.map_map, List.mem_map] at hc
    obtain ⟨k, _, rfl⟩ := hc
    exact ⟨k, rfl⟩
  refine ⟨fun c hc z hz => ?_, fun c hc => ?_⟩
  · obtain ⟨k, rfl⟩ := channel c hc
    simp only [channelPhasors, List.map_map, List.mem_map] at hz
    obtain ⟨h, _, rfl⟩ := hz
    exact calibrate_inRange _ _ _ _
  · obtain ⟨k, rfl⟩ := channel c hc
    simp [channelPhasors, Sys2Proof.Machine.orders]

/-! ### Power figures and their sums (R39 to R42) -/

/-- Every number of the list is at most `b` in magnitude. -/
def BoundedBy (b : Nat) (xs : List Int) : Prop := ∀ x ∈ xs, x.natAbs ≤ b

theorem forall_mem_zipWith {α β γ : Type} {f : α → β → γ} {p : γ → Prop} :
    ∀ {as : List α} {bs : List β}, (∀ a ∈ as, ∀ b ∈ bs, p (f a b)) → ∀ c ∈ List.zipWith f as bs, p c
  | [], _, _ => nofun
  | _ :: _, [], _ => nofun
  | a :: as, b :: bs, h => by
    refine List.forall_mem_cons.mpr ⟨h a List.mem_cons_self b List.mem_cons_self, ?_⟩
    exact forall_mem_zipWith fun x hx y hy => h x (List.mem_cons_of_mem _ hx) y (List.mem_cons_of_mem _ hy)

theorem BoundedBy.zipWith_add {m n : Nat} {xs ys : List Int} (hx : BoundedBy m xs) (hy : BoundedBy n ys) :
    BoundedBy (m + n) (List.zipWith (· + ·) xs ys) :=
  forall_mem_zipWith fun x hxs y hys => (Int.natAbs_add_le x y).trans (Nat.add_le_add (hx x hxs) (hy y hys))

theorem BoundedBy.sum {b : Nat} {xs : List Int} (h : BoundedBy b xs) : xs.sum.natAbs ≤ xs.length * b := by
  induction xs with
  | nil => exact Nat.zero_le _
  | cons x xs ih =>
    obtain ⟨hx, hxs⟩ := List.forall_mem_cons.mp h
    rw [List.sum_cons, List.length_cons, Nat.succ_mul]
    calc (x + xs.sum).natAbs ≤ x.natAbs + xs.sum.natAbs := Int.natAbs_add_le _ _
      _ ≤ b + xs.length * b := Nat.add_le_add hx (ih hxs)
      _ = xs.length * b + b := Nat.add_comm _ _

theorem BoundedBy.getD {b : Nat} {xs : List Int} (h : BoundedBy b xs) (k : Nat) : (xs.getD k 0).natAbs ≤ b := by
  rw [List.getD_eq_getElem?_getD]
  cases hk : xs[k]? with
  | none => exact Nat.zero_le _
  | some x => exact h x (List.mem_of_getElem? hk)

/-- The largest power figure of two phasors in range. -/
def powerMax : Nat := 2 * (8388607 * 8388607)

theorem natAbs_mul_le {x y : Int} (hx : x.natAbs ≤ 8388607) (hy : y.natAbs ≤ 8388607) :
    (x * y).natAbs ≤ 8388607 * 8388607 := by
  rw [Int.natAbs_mul]
  exact Nat.mul_le_mul hx hy

theorem activePower_natAbs_le {v i : Phasor} (hv : v.InRange) (hi : i.InRange) :
    (activePower v i).natAbs ≤ powerMax := by
  obtain ⟨hvre, hvim⟩ := hv
  obtain ⟨hire, hiim⟩ := hi
  have hre := natAbs_mul_le hvre hire
  have him := natAbs_mul_le hvim hiim
  have := Int.natAbs_add_le (v.re * i.re) (v.im * i.im)
  unfold activePower powerMax
  omega

theorem reactivePower_natAbs_le {v i : Phasor} (hv : v.InRange) (hi : i.InRange) :
    (reactivePower v i).natAbs ≤ powerMax := by
  obtain ⟨hvre, hvim⟩ := hv
  obtain ⟨hire, hiim⟩ := hi
  have hre := natAbs_mul_le hvim hire
  have him := natAbs_mul_le hvre hiim
  have := Int.natAbs_sub_le (v.im * i.re) (v.re * i.im)
  unfold reactivePower powerMax
  omega

section
variable {f : Phasor → Phasor → Int} (hf : ∀ {v i : Phasor}, v.InRange → i.InRange → (f v i).natAbs ≤ powerMax)
  {zs : List (List Phasor)} (hz : SetInRange zs)
include hz

theorem SetInRange.channel (k : Nat) : (∀ z ∈ zs.getD k [], z.InRange) ∧ (zs.getD k []).length ≤ 50 := by
  rw [List.getD_eq_getElem?_getD]
  cases hk : zs[k]? with
  | none => exact ⟨nofun, Nat.zero_le _⟩
  | some c => exact ⟨hz.phasors c (List.mem_of_getElem? hk), hz.orders c (List.mem_of_getElem? hk)⟩

include hf

theorem phaseFigures_boundedBy (p : Nat) : BoundedBy powerMax (phaseFigures f zs p) :=
  forall_mem_zipWith fun v hv i hi => hf ((hz.channel p).1 v hv) ((hz.channel (p + 3)).1 i hi)

theorem phaseSums_boundedBy : BoundedBy (3 * powerMax) (phaseSums f zs) := by
  have h := ((phaseFigures_boundedBy hf hz 0).zipWith_add (phaseFigures_boundedBy hf hz 1)).zipWith_add
    (phaseFigures_boundedBy hf hz 2)
  rwa [show powerMax + powerMax + powerMax = 3 * powerMax by ring] at h

omit hf in
theorem phaseSums_length_le : (phaseSums f zs).length ≤ 50 := by
  obtain ⟨_, hlen⟩ := hz.channel 0
  simp only [phaseSums, phaseFigures, List.length_zipWith]
  omega

/-- The largest phase sum, class sum or harmonic total. -/
theorem fundamental_natAbs_le : ((phaseSums f zs).getD 0 0).natAbs ≤ 49 * (3 * powerMax) :=
  ((phaseSums_boundedBy hf hz).getD 0).trans (by unfold powerMax; omega)

theorem harmonicTotal_natAbs_le : (harmonicTotal (phaseSums f zs)).natAbs ≤ 49 * (3 * powerMax) := by
  have hdrop : BoundedBy (3 * powerMax) ((phaseSums f zs).drop 1) := fun x hx =>
    phaseSums_boundedBy hf hz x (List.mem_of_mem_drop hx)
  have hlen : ((phaseSums f zs).drop 1).length ≤ 49 := by
    have := phaseSums_length_le (f := f) hz
    rw [List.length_drop]
    omega
  exact hdrop.sum.trans (Nat.mul_le_mul_right _ hlen)

theorem classSum_natAbs_le (t : Table) (c : Nat) : (classSum t (phaseSums f zs) c).natAbs ≤ 49 * (3 * powerMax) := by
  have hlen : (((phaseSums f zs).drop 1).zip t.classMap.toList).length ≤ 49 := by
    rw [List.length_zip, Vector.length_toList]
    exact Nat.min_le_right _ _
  have hterm : BoundedBy (3 * powerMax) ((((phaseSums f zs).drop 1).zip t.classMap.toList).map fun x =>
      if x.2.toNat = c then x.1 else 0) := by
    intro y hy
    obtain ⟨⟨x, k⟩, hx, rfl⟩ := List.mem_map.mp hy
    dsimp only
    split
    · exact phaseSums_boundedBy hf hz x (List.mem_of_mem_drop (List.of_mem_zip hx).1)
    · exact Nat.zero_le _
  unfold classSum
  refine hterm.sum.trans (Nat.mul_le_mul_right _ ?_)
  rwa [List.length_map]

end

/-! ### Increments (R43 to R50) -/

/-- The window energy of a sum in range over a window of at most 2,000,000 ticks (R43, R50). -/
theorem windowEnergy_natAbs_lt (weight : BitVec 32) {ticks : Nat} (ht : ticks ≤ 2000000) {x : Int}
    (hx : x.natAbs ≤ 49 * (3 * powerMax)) : (windowEnergy weight ticks x).natAbs < 2 ^ 60 := by
  have hproduct : (x * weight.toNat * ticks).natAbs ≤ 49 * (3 * powerMax) * 2 ^ 32 * 2000000 := by
    rw [Int.natAbs_mul, Int.natAbs_mul, Int.natAbs_natCast, Int.natAbs_natCast]
    exact Nat.mul_le_mul (Nat.mul_le_mul hx weight.isLt.le) ht
  have hbound := roundDiv_natAbs_le (x * weight.toNat * ticks) (d := 2 ^ 48) (by decide)
  unfold windowEnergy
  refine hbound.trans_lt ?_
  have hd : ((2 : Int) ^ 48).natAbs = 2 ^ 48 := by decide
  rw [hd, Nat.div_lt_iff_lt_mul (by decide)]
  unfold powerMax at hproduct
  omega

theorem positivePart_le (x : Int) : positivePart x ≤ x.natAbs := by unfold positivePart; omega

theorem negativePart_le (x : Int) : negativePart x ≤ x.natAbs := by unfold negativePart; omega

theorem quadrants_le (p q : Int) : ∀ x ∈ quadrants p q, x ≤ q.natAbs := by
  have hone (c : Prop) [Decidable c] : (if c then q.natAbs else 0) ≤ q.natAbs := by
    split
    · exact le_rfl
    · exact Nat.zero_le _
  simp only [quadrants, List.forall_mem_cons]
  exact ⟨hone _, hone _, hone _, hone _, nofun⟩

theorem excess_le (energy : Nat) (ratio : Word) (imported : Nat) : excess energy ratio imported ≤ energy :=
  Nat.sub_le _ _

theorem increments_lt {t : Table} {i : Incomer} {band : BitVec 3} {ticks : Nat} {zs : List (List Phasor)}
    (hz : SetInRange zs) (ht : ticks ≤ 2000000) : ∀ x ∈ increments t i band ticks zs, x < 2 ^ 60 := by
  have hp := windowEnergy_natAbs_lt (t.weight.get i) ht (fundamental_natAbs_le activePower_natAbs_le hz)
  have hq := windowEnergy_natAbs_lt (t.weight.get i) ht (fundamental_natAbs_le reactivePower_natAbs_le hz)
  have htotal := windowEnergy_natAbs_lt (t.weight.get i) ht (harmonicTotal_natAbs_le activePower_natAbs_le hz)
  have hactive (c : Nat) :=
    windowEnergy_natAbs_lt (t.weight.get i) ht (classSum_natAbs_le activePower_natAbs_le hz t c)
  have hreactive (c : Nat) :=
    windowEnergy_natAbs_lt (t.weight.get i) ht (classSum_natAbs_le reactivePower_natAbs_le hz t c)
  have each (g : Nat → Nat) (h : ∀ c, g c < 2 ^ 60) : ∀ x ∈ (List.range 8).map g, x < 2 ^ 60 := by
    intro x hx
    obtain ⟨c, _, rfl⟩ := List.mem_map.mp hx
    exact h c
  unfold increments
  simp only [List.forall_mem_append, List.forall_mem_cons]
  refine ⟨⟨⟨⟨⟨⟨⟨?_, ?_, nofun⟩, fun x hx => ?_⟩, ?_, ?_, nofun⟩, each _ fun c => ?_⟩, each _ fun c => ?_⟩,
    each _ fun c => ?_⟩, ?_, ?_, nofun⟩
  · exact (positivePart_le _).trans_lt hp
  · exact (negativePart_le _).trans_lt hp
  · exact (quadrants_le _ _ x hx).trans_lt hq
  · exact ((excess_le _ _ _).trans (positivePart_le _)).trans_lt hq
  · exact ((excess_le _ _ _).trans (negativePart_le _)).trans_lt hq
  · exact (positivePart_le _).trans_lt (hactive c)
  · exact (negativePart_le _).trans_lt (hactive c)
  · exact hreactive c
  · exact (positivePart_le _).trans_lt htotal
  · exact (negativePart_le _).trans_lt htotal

/-- Settles O12. -/
theorem phasorsAndIncrementsKeepTheirBounds : Obligations.PhasorsAndIncrementsKeepTheirBounds := by
  intro t i rows
  have hz := phasorSet_inRange t i rows
  exact ⟨hz.phasors, fun band ticks ht => increments_lt hz ht⟩

end Sys2Proof.Machine

/-! The joint table unit (chapter 4): drafts, proposals, commits, withdrawals and lapses, request by request. -/

namespace Sys2Proof.Machine

/-! ### Requests (R177, R178) -/

/-- A request of its code in flight is taken and answered. -/
theorem State.take_inFlight {s : State} {p : Port} {code : Nat} {r : Request} (h : s.inFlight p code r)
    (act : Request → Response × State) : s.take p code act = (act r).2.respond p r.code (act r).1 := by
  obtain ⟨hr, hc⟩ := h
  exact s.take_of_inFlight act hr hc

/-- What a request answers, and with which state. -/
theorem next_take {s : State} {p : Port} {code : Nat} {r : Request} (h : s.inFlight p code r)
    {act : Request → Response × State} {x : Response} {t : State} (ha : act r = (x, t)) :
    Host.Outcome.next (σ := State) (φ := Fault) (ρ := Refusal) (s.take p code act) = .next (t.respond p r.code x) := by
  rw [State.take_inFlight h, ha]

theorem PortState.raise_edgeSet (x : PortState) (e : Event) : (x.raise e).edges.getLsbD e.bit = true := by
  obtain ⟨_, hk⟩ := x.raise_portRaised e
  obtain ⟨hedges, _⟩ := hk e.bit
  rw [hedges]
  simp

/-! ### Drafts (O17) -/

/-- A further word of the transaction that stands at a port (R170). -/
theorem next_word {s : State} {p : Port} {k : TxKind} {x : Transaction} {w : Word}
    {head : Readout → Word → State} {word : Transaction → Word → State} {rise : Transaction → State} {t : State}
    (hr : (s.port p).resetAsserted = false) (hx : (s.port p).transaction = some x) (hk : x.kind = k)
    (ht : word x w = t) : Host.Outcome.next (σ := State) (φ := Fault) (ρ := Refusal)
      (s.transact p k (.word w) head word rise) = .next t := by
  rw [State.transact_word head word rise hr hx hk, ht]

theorem State.shift_eq (s : State) (p : Port) (t : Transaction) (w : Word) :
    s.shift p t w = s.setPort p { s.port p with transaction := some t, dataOut := w } := rfl

theorem State.shiftPast_eq (s : State) (p : Port) (t : Transaction) : s.shiftPast p t =
    s.setPort p { s.port p with transaction := some t.step, dataOut := 0, overrun := true, overrunSince := true } := by
  rw [State.shiftPast, State.shift_eq, State.updPort_setPort]
  rfl

theorem State.draftWord_offset {s : State} {p : Port} {x : Transaction} (h : x.offset = none) (w : Word) :
    s.draftWord p x w = s.setPort p { s.port p with
      transaction := some { x with offset := some w, pointer := w.toNat }, dataOut := 0 } := if_pos h

theorem State.draftWord_data {s : State} {p : Port} {x : Transaction} (h : x.offset ≠ none) (hp : x.pointer < 62)
    {d : Draft} (hd : s.joint.draft p = some d) (w : Word) : s.draftWord p x w =
      (s.setJoint (s.joint.setDraft p { d with table := writeTable d.table x.pointer w })).setPort p
        { s.port p with transaction := some x.step, dataOut := 0 } := by
  have hlength : x.pointer < draftLength := hp
  rw [State.draftWord, if_neg h, if_pos hlength, State.writeDraft, hd]
  rfl

theorem State.draftWord_past {s : State} {p : Port} {x : Transaction} (h : x.offset ≠ none) (hp : 62 ≤ x.pointer)
    (w : Word) : s.draftWord p x w = s.setPort p
      { s.port p with transaction := some x.step, dataOut := 0, overrun := true, overrunSince := true } := by
  have hlength : ¬x.pointer < draftLength := Nat.not_lt.mpr hp
  rw [State.draftWord, if_neg h, if_neg hlength, State.shiftPast_eq]

/-- Settles O17. -/
theorem draftsAreLoadedAndWritten : Obligations.DraftsAreLoadedAndWritten := by
  refine ⟨fun s p r h => ⟨?_, ?_, ?_⟩, fun s p x w hr hx hk => ⟨fun hoff => ?_, fun o d y hoff hd hy => ?_⟩⟩
  · rintro rfl
    exact next_take h rfl
  · rintro rfl
    exact next_take h rfl
  · rintro rfl
    exact next_take h rfl
  · exact next_word hr hx hk (State.draftWord_offset hoff w)
  · have hsome : x.offset ≠ none := by rw [hoff]; nofun
    subst hy
    exact ⟨fun hp => next_word hr hx hk (State.draftWord_data hsome hp hd w),
      fun hp => next_word hr hx hk (State.draftWord_past hsome hp w)⟩

/-! ### Proposals (O18) -/

theorem Table.valid_iff (t : Table) : t.valid = true ↔ (t.frequency = 50 ∨ t.frequency = 60)
    ∧ (∀ k ∈ t.classMap.toList, k.toNat < 8 ∨ k = 15) ∧ t.slotLength ≠ 0 := by
  simp only [Table.valid, Bool.and_eq_true, Bool.or_eq_true, beq_iff_eq, List.all_eq_true, decide_eq_true_eq, bne_iff_ne,
    and_assoc]

/-- While a proposal of port U or F is pending, PROPOSAL stands at the other of them (R70). -/
theorem State.proposalLevel_iff {s : State} {q : Proposal} (hq : s.joint.proposal = some q) (k : Port) :
    s.proposalLevel k = true ↔ k ≠ q.proposer ∧ k ≠ .C := by
  simp [State.proposalLevel, hq, and_comm]

/-- Settles O18. -/
theorem proposeOffersTheDraft : Obligations.ProposeOffersTheDraft := by
  intro s p r h
  refine ⟨?_, fun d hd => ⟨fun q hq => ?_, fun hnone => ⟨fun hvalid => ?_, fun hinvalid => ?_⟩⟩⟩
  · rintro rfl
    exact next_take h rfl
  · exact next_take h (by simp [hd, hq])
  · rw [← d.table.valid_iff] at hvalid
    refine ⟨_, next_take h (x := .done) (t := s.setJoint (s.joint.propose p d.table)) ?_, rfl, fun k => ?_⟩
    · simp [hd, hnone, hvalid]
    · exact State.proposalLevel_iff (s := (s.setJoint (s.joint.propose p d.table)).respond p r.code .done) rfl k
  · rw [← d.table.valid_iff] at hinvalid
    exact next_take h (by simp [hd, hnone, hinvalid])

/-! ### Withdrawals and lapses (O20) -/

/-- Settles O20. -/
theorem withdrawAndLapseEndTheProposal : Obligations.WithdrawAndLapseEndTheProposal := by
  refine ⟨fun s p r h => ⟨?_, fun hp hnone => ?_, fun q hq hp => ⟨fun hother => ?_, fun hown => ?_⟩⟩,
    fun s q hq hzero => ?_⟩
  · rintro rfl
    exact next_take h rfl
  · exact next_take h (by simp [hp, hnone])
  · exact next_take h (by simp [hp, hq, hother])
  · have hproposer : q.proposer ≠ .C := hown ▸ hp
    exact next_take h (by simp [hproposer, hq, hown, State.endProposal])
  · refine ⟨s.lapseNow, by simp only [exec, execLapse, hq, if_pos hzero], rfl, ?_, ?_, rfl, rfl, rfl, rfl⟩
    · exact (s.port .U).raise_edgeSet .lapsed
    · exact (s.port .F).raise_edgeSet .lapsed

/-! ### Commits (O19) -/

/-- `t` has of incomer `i` what `s` has: its assembler, its invalid run and its entries of the wait list. -/
structure SparesIncomer (i : Incomer) (s t : State) : Prop where
  assembler : t.assembler i = s.assembler i
  run : (t.calc i).invalidRun = (s.calc i).invalidRun
  entries : ∀ e, e.incomer = i → (e ∈ t.waitList ↔ e ∈ s.waitList)

theorem SparesIncomer.trans {i : Incomer} {s t u : State} (h : SparesIncomer i s t) (k : SparesIncomer i t u) :
    SparesIncomer i s u :=
  ⟨k.assembler.trans h.assembler, k.run.trans h.run, fun e he => (k.entries e he).trans (h.entries e he)⟩

/-- A commit has reached incomer `i`, whose enabled setting goes from `was` to `now` (R16, R52, R75). -/
structure ReachesIncomer (i : Incomer) (was now : Bool) (s t : State) : Prop where
  kept : now = was → SparesIncomer i s t
  enabled : was = false → now = true →
    (t.assembler i).state = .awaiting ∧ (t.assembler i).nextWindow = 0 ∧ (t.calc i).invalidRun = 0
  disabled : was = true → now = false →
    (t.assembler i).state = .disabled ∧ (t.calc i).invalidRun = 0 ∧ (∀ e ∈ t.waitList, e.incomer ≠ i)
      ∧ ∀ e ∈ s.waitList, ∀ b, e.incomer = i → e.bank = some b → ((t.assembler i).bank b).held = false

theorem ReachesIncomer.after {i : Incomer} {was now : Bool} {s t u : State} (k : SparesIncomer i s t)
    (h : ReachesIncomer i was now t u) : ReachesIncomer i was now s u := by
  refine ⟨fun hk => k.trans (h.kept hk), h.enabled, fun hw hn => ?_⟩
  obtain ⟨hstate, hrun, hgone, hbanks⟩ := h.disabled hw hn
  exact ⟨hstate, hrun, hgone, fun e he b hi hb => hbanks e ((k.entries e hi).mpr he) b hi hb⟩

theorem ReachesIncomer.before {i : Incomer} {was now : Bool} {s t u : State} (h : ReachesIncomer i was now s t)
    (k : SparesIncomer i t u) : ReachesIncomer i was now s u := by
  refine ⟨fun hk => (h.kept hk).trans k, fun hw hn => ?_, fun hw hn => ?_⟩
  · rw [k.assembler, k.run]
    exact h.enabled hw hn
  · obtain ⟨hstate, hrun, hgone, hbanks⟩ := h.disabled hw hn
    rw [k.assembler, k.run]
    exact ⟨hstate, hrun, fun e he hi => hgone e ((k.entries e hi).mp he) hi, hbanks⟩

theorem State.freeBank_assembler_self (s : State) (e : WaitEntry) :
    ((s.freeBank e).assembler e.incomer).state = (s.assembler e.incomer).state
      ∧ ∀ b, (((s.freeBank e).assembler e.incomer).bank b).held =
          (((s.assembler e.incomer).bank b).held && decide (e.bank ≠ some b)) := by
  cases hb : e.bank with
  | none => simp [State.freeBank, hb]
  | some c =>
    rw [State.freeBank_assembler s hb, if_pos rfl]
    refine ⟨Assembler.setBank_state _ _ _, fun b => ?_⟩
    rw [Assembler.setBank_bank]
    by_cases hbc : b = c
    · simp [hbc]
    · simp [hbc, Ne.symm hbc]

/-- The banks of the dropped entries are freed, and the assembler's state stands (R16). -/
theorem State.freeBanks_self (i : Incomer) (es : List WaitEntry) (he : ∀ e ∈ es, e.incomer = i) (s : State) :
    ((es.foldl State.freeBank s).assembler i).state = (s.assembler i).state
      ∧ ∀ b, (((es.foldl State.freeBank s).assembler i).bank b).held =
          (((s.assembler i).bank b).held && decide (∀ e ∈ es, e.bank ≠ some b)) := by
  induction es generalizing s with
  | nil => simp
  | cons e es ih =>
    obtain ⟨hfirst, hrest⟩ := List.forall_mem_cons.mp he
    obtain ⟨hstate, hheld⟩ := ih hrest (s.freeBank e)
    obtain ⟨hstate', hheld'⟩ := s.freeBank_assembler_self e
    rw [hfirst] at hstate' hheld'
    refine ⟨hstate.trans hstate', fun b => ?_⟩
    rw [List.foldl_cons, hheld, hheld', Bool.and_assoc]
    simp

theorem State.commitIncomer_calc (s : State) (i k : Incomer) (was now : Bool) :
    ((s.commitIncomer i was now).calc k).invalidRun = if k = i ∧ now ≠ was then 0 else (s.calc k).invalidRun := by
  have freed (es : List WaitEntry) (t : State) : (es.foldl State.freeBank t).calc k = t.calc k := by
    induction es generalizing t with
    | nil => rfl
    | cons e es ih => rw [List.foldl_cons, ih, State.freeBank_calc]
  have hlist (t : State) (ws : List WaitEntry) : { t with waitList := ws }.calc k = t.calc k := rfl
  have hdropped : (s.disableIncomer i).calc k = s.calc k := by
    rw [State.disableIncomer, State.dropEntries, hlist, freed]
    rfl
  have henabled : (s.enableIncomer i).calc k = s.calc k := rfl
  unfold State.commitIncomer State.clearRun
  cases was <;> cases now <;> by_cases hk : k = i <;> simp [hk, hdropped, henabled]

theorem State.commitIncomer_spares (s : State) {i k : Incomer} (hk : k ≠ i) (was now : Bool) :
    SparesIncomer k s (s.commitIncomer i was now) := by
  refine ⟨s.commitIncomer_assembler_ne hk was now, ?_, fun e he => ?_⟩
  · rw [State.commitIncomer_calc, if_neg fun h => hk h.1]
  · rw [State.commitIncomer_waitList]
    split
    · simp [he, hk]
    · rfl

theorem State.commitIncomer_reaches (s : State) (i : Incomer) (was now : Bool) :
    ReachesIncomer i was now s (s.commitIncomer i was now) := by
  refine ⟨?_, ?_, ?_⟩
  · rintro rfl
    rw [State.commitIncomer, if_pos rfl]
    exact ⟨rfl, rfl, fun _ _ => .rfl⟩
  · rintro rfl rfl
    have henabled : (s.commitIncomer i false true).assembler i = (s.enableIncomer i).assembler i := rfl
    rw [henabled, State.enableIncomer, State.setAssembler_assembler, if_pos rfl, State.commitIncomer_calc]
    exact ⟨rfl, rfl, if_pos ⟨rfl, nofun⟩⟩
  · rintro rfl rfl
    have hgone : ∀ e ∈ (s.waitList.filter fun e => e.incomer == i), e.incomer = i := fun e he => by
      simpa using (List.mem_filter.mp he).2
    have hassembler : (s.commitIncomer i true false).assembler i = ((s.waitList.filter fun e => e.incomer == i).foldl
        State.freeBank (s.setAssembler i { s.assembler i with state := .disabled })).assembler i := rfl
    obtain ⟨hstate, hheld⟩ := State.freeBanks_self i _ hgone (s.setAssembler i { s.assembler i with state := .disabled })
    rw [← hassembler, State.setAssembler_assembler, if_pos rfl] at hstate
    refine ⟨hstate, ?_, fun e he => ?_, fun e he b hi hb => ?_⟩
    · rw [State.commitIncomer_calc]
      exact if_pos ⟨rfl, nofun⟩
    · rw [State.commitIncomer_waitList, if_pos ⟨rfl, rfl⟩] at he
      simpa using (List.mem_filter.mp he).2
    · rw [hassembler, hheld, Bool.and_eq_false_iff]
      refine .inr (decide_eq_false fun hall => ?_)
      exact hall e (List.mem_filter.mpr ⟨he, by simp [hi]⟩) hb

theorem State.commit_reaches (s : State) (t : Table) (i : Incomer) :
    ReachesIncomer i (s.joint.committed.enabled.get i) (t.enabled.get i) s (s.commit t) := by
  have hcleared (u : State) : SparesIncomer i u (u.clearSources.raiseAll .committed) := by
    refine ⟨rfl, ?_, fun _ _ => .rfl⟩
    rw [State.raiseAll_calc, State.clearSources, State.calc, PerIncomer.get_map]
    rfl
  have hjoint : SparesIncomer i s (s.setJoint (s.joint.commit t)) := ⟨rfl, rfl, fun _ _ => .rfl⟩
  rw [State.commit_eq]
  refine ReachesIncomer.before (.after hjoint ?_) (hcleared _)
  cases i with
  | A => exact (State.commitIncomer_reaches _ .A _ _).before (State.commitIncomer_spares _ (by decide) _ _)
  | B => exact .after (State.commitIncomer_spares _ (by decide) _ _) (State.commitIncomer_reaches _ .B _ _)

theorem State.commit_port (s : State) (t : Table) (p : Port) : (s.commit t).port p = (s.port p).raise .committed := by
  have hports : (s.commitBoth t).ports = s.ports := by
    rw [State.commitBoth, State.commitIncomer_ports, State.commitIncomer_ports, State.setJoint_ports]
  have hport (u : State) : u.clearSources.port p = u.port p := rfl
  rw [State.commit_eq, State.raiseAll_port, hport, State.port, hports, State.port]

theorem State.commit_source (s : State) (t : Table) (i : Incomer) : ((s.commit t).calc i).source = none := by
  rw [State.commit_eq, State.raiseAll_calc, State.clearSources, State.calc, PerIncomer.get_map]

theorem State.commit_engine (s : State) (t : Table) : (s.commit t).engine = s.engine := by
  rw [State.commit_eq, State.raiseAll_engine, State.clearSources_engine, State.commitBoth_engine]

/-- Settles O19: the refusals in their order, and the commit as it reaches each incomer. -/
theorem concurCommitsTheProposal : Obligations.ConcurCommitsTheProposal := by
  intro s p r h
  refine ⟨?_, fun hp hnone => ?_, fun q hq hp => ⟨fun hown => ?_, fun hother hserial => ?_, fun hother hserial => ?_⟩⟩
  · rintro rfl
    exact next_take h rfl
  · exact next_take h (by simp [hp, hnone])
  · exact next_take h (by simp [hp, hq, hown.symm])
  · exact next_take h (by simp [hp, hq, hother, hserial])
  · refine ⟨(s.commit q.table).respond p r.code .done,
      next_take h (by simp [hp, hq, hother, hserial]), ?_⟩
    have l := s.commit_leaves (f := { joint := true, assemblers := true, results := true }) rfl rfl rfl q.table
    have hjoint := s.commit_joint q.table
    have hengine := s.commit_engine q.table
    have hsource := s.commit_source q.table
    have hport := s.commit_port q.table
    have hreaches := s.commit_reaches q.table
    generalize s.commit q.table = t at l hjoint hengine hsource hport hreaches ⊢
    refine ⟨?_, hjoint, fun k => ?_, hsource, fun i hi => ?_, fun i hwas hnow => ?_, fun i hwas hnow => ?_, hengine,
      l.accounts rfl, l.time rfl, l.freeze rfl, l.receivers rfl⟩
    · simp [State.respond]
    · have hedges : ((t.respond p r.code .done).port k).edges = (t.port k).edges := by
        rw [State.respond, State.updPort_port]
        split
        · rename_i hk
          rw [hk]
        · rfl
      rw [State.edgeSet, hedges, hport]
      exact PortState.raise_edgeSet _ _
    · obtain ⟨hassembler, hrun, hentries⟩ := (hreaches i).kept hi
      exact ⟨hassembler, hrun, fun e he hei => (hentries e hei).mpr he⟩
    · exact (hreaches i).enabled hwas hnow
    · exact (hreaches i).disabled hwas hnow

end Sys2Proof.Machine

/-! An event of one account: the watches after its evaluation, the crossings that reach the pending sets, and the close
operation as the statements give them (R115 to R117, R131 to R136). -/

namespace Sys2Proof.Machine

/-! ### Evaluations (R129, R131 to R134) -/

theorem Watch.crossing_below {w : Watch} (h : w.above = false) (m : Nat) :
    w.crossing m = if w.high ≤ m then some .rise else none := by simp [Watch.crossing, h]

theorem Watch.crossing_above {w : Watch} (h : w.above = true) (m : Nat) :
    w.crossing m = if m ≤ w.low then some .fall else none := by simp [Watch.crossing, h]

/-- The watch after an evaluation at a measure (R134). -/
theorem Watch.cross_crossing (w : Watch) (m : Nat) : w.cross (w.crossing m) = watchAt w m := by
  obtain ⟨enabled, bin, measure, high, low, signalling, route, above⟩ := w
  cases above
  · by_cases hm : high ≤ m <;> simp [Watch.crossing, Watch.cross, watchAt, hm]
  · by_cases hm : m ≤ low
    · simp [Watch.crossing, Watch.cross, watchAt, hm, Nat.not_lt.mpr hm]
    · simp [Watch.crossing, Watch.cross, watchAt, hm, Nat.lt_of_not_le hm]

/-- A crossing is a change of state, a rise to ABOVE or a fall to BELOW, and there is no change without one (R134). -/
theorem Watch.crossing_iff (w : Watch) (m : Nat) (c : Crossing) : w.crossing m = some c ↔
    (w.cross (w.crossing m)).above ≠ w.above ∧ c = if (w.cross (w.crossing m)).above then .rise else .fall := by
  cases h : w.above
  · rw [Watch.crossing_below h]
    by_cases hm : w.high ≤ m
    · simp [hm, Watch.cross, eq_comm]
    · simp [hm, Watch.cross, h]
  · rw [Watch.crossing_above h]
    by_cases hm : m ≤ w.low
    · simp [hm, Watch.cross, eq_comm]
    · simp [hm, Watch.cross, h]

theorem Account.evaluate_watches (a : Account) (k : Option Booked) (i : Nat) :
    (a.evaluate k).1.watches[i]? = (a.watches[i]?).map fun w => w.cross (a.crossingOf k w) :=
  mapVec_getElem? _ a.watches i

theorem Account.evaluate_watch_none {a : Account} {k : Option Booked} {i : Nat} {w : Watch}
    (hw : a.watches[i]? = some w) (hm : a.measureOf k w = none) : (a.evaluate k).1.watches[i]? = some w := by
  rw [Account.evaluate_watches, hw, Option.map_some, Account.crossingOf, hm]
  rfl

theorem Account.evaluate_watch_some {a : Account} {k : Option Booked} {i : Nat} {w : Watch} {m : Nat}
    (hw : a.watches[i]? = some w) (hm : a.measureOf k w = some m) :
    (a.evaluate k).1.watches[i]? = some (watchAt w m) := by
  rw [Account.evaluate_watches, hw, Option.map_some, Account.crossingOf, hm, ← Watch.cross_crossing]
  rfl

/-- The crossings of an evaluation are those of the watches it evaluates, by their routes (R134, R135). -/
theorem Account.mem_evaluate {a : Account} {k : Option Booked} {x : Crossed} : x ∈ (a.evaluate k).2 ↔
    ∃ w m, a.watches[x.watch]? = some w ∧ a.measureOf k w = some m ∧ w.crossing m = some x.kind ∧ x.route = w.route := by
  simp only [Account.evaluate, List.mem_filterMap, Prod.exists]
  constructor
  · rintro ⟨w, i, hw, hx⟩
    obtain ⟨c, hc, rfl⟩ := Option.map_eq_some_iff.mp hx
    obtain ⟨m, hm, hcross⟩ := Option.bind_eq_some_iff.mp hc
    refine ⟨w, m, ?_, hm, hcross, rfl⟩
    rw [← Vector.getElem?_toList]
    exact List.mem_zipIdx_iff_getElem?.mp hw
  · rintro ⟨w, m, hw, hm, hcross, hroute⟩
    refine ⟨w, x.watch, ?_, ?_⟩
    · rw [← Vector.getElem?_toList] at hw
      exact List.mem_zipIdx_iff_getElem?.mpr hw
    · rw [Account.crossingOf, hm, Option.bind_some, hcross, Option.map_some, ← hroute]

theorem Account.measureOf_total {a : Account} {k : Option Booked} {w : Watch} (he : w.enabled = true)
    (hm : w.measure = .total) : a.measureOf k w = (a.bins[w.bin]?).map (·.value) := by
  simp [Account.measureOf, he, hm]

theorem Account.measureOf_rate {a : Account} {k : Option Booked} {w : Watch} (he : w.enabled = true)
    (hm : w.measure = .rate) :
    a.measureOf k w = k.bind fun b => (b.amounts[w.bin]?).map fun d => rateMeasure d b.ticks := by
  simp [Account.measureOf, he, hm]

theorem Account.measureOf_disabled {a : Account} {k : Option Booked} {w : Watch} (he : w.enabled = false) :
    a.measureOf k w = none := by simp [Account.measureOf, he]

/-! ### Crossings on their way to the pending sets (R135, R136) -/

/-- The crossings of `r` are the changes of state between the watches of `a` and those of `r.1`. -/
structure Account.Tracks (a : Account) (r : Account × List Crossed) : Prop where
  sound : ∀ x ∈ r.2, ∃ w v : Watch, a.watches[x.watch]? = some w ∧ r.1.watches[x.watch]? = some v ∧ v.above ≠ w.above
    ∧ x.route = w.route ∧ x.kind = if v.above then .rise else .fall
  complete : ∀ (k : Nat) (w v : Watch), a.watches[k]? = some w → r.1.watches[k]? = some v → v.above ≠ w.above →
    { watch := k, kind := if v.above then .rise else .fall, route := w.route } ∈ r.2

/-- Watches that stand make no crossing. -/
theorem Account.Tracks.plain {a b : Account} (h : b.watches = a.watches) : a.Tracks (b, []) := by
  refine ⟨nofun, fun k w v hw hv hne => ?_⟩
  have hvw : v = w := Option.some_inj.mp (by rw [← hv, ← hw, ← h])
  exact absurd (congrArg Watch.above hvw) hne

theorem Account.Tracks.of_watches {a b : Account} {r : Account × List Crossed} (h : b.Tracks r)
    (hw : b.watches = a.watches) : a.Tracks r := by
  obtain ⟨hsound, hcomplete⟩ := h
  rw [hw] at hsound hcomplete
  exact ⟨hsound, hcomplete⟩

theorem Account.evaluate_tracks (a : Account) (k : Option Booked) : a.Tracks (a.evaluate k) := by
  refine ⟨fun x hx => ?_, fun i w v hw hv hne => ?_⟩
  · obtain ⟨w, m, hw, hm, hcross, hroute⟩ := Account.mem_evaluate.mp hx
    obtain ⟨hchange, hkind⟩ := (w.crossing_iff m x.kind).mp hcross
    rw [Watch.cross_crossing] at hchange hkind
    exact ⟨w, watchAt w m, hw, Account.evaluate_watch_some hw hm, hchange, hroute, hkind⟩
  · cases hm : a.measureOf k w with
    | none =>
      cases (Account.evaluate_watch_none hw hm).symm.trans hv
      exact absurd rfl hne
    | some m =>
      cases (Account.evaluate_watch_some hw hm).symm.trans hv
      refine Account.mem_evaluate.mpr ⟨w, m, hw, hm, ?_, rfl⟩
      rw [Watch.crossing_iff, Watch.cross_crossing]
      exact ⟨hne, rfl⟩

/-! #### One crossing in a pending set -/

theorem exists_recordCrossing (n k : Nat) (c : Crossing) (es : List PendingEntry) :
    ∃ e ∈ recordCrossing n k c es, e.account = n ∧ e.watch = k ∧ e.latest = c := by
  induction es with
  | nil => exact ⟨_, List.mem_singleton_self _, rfl, rfl, rfl⟩
  | cons e es ih =>
    unfold recordCrossing
    split
    · rename_i he
      have hkey : e.account = n ∧ e.watch = k := by simpa [PendingEntry.isOf] using he
      exact ⟨_, List.mem_cons_self, hkey.1, hkey.2, rfl⟩
    · split
      · exact ⟨_, List.mem_cons_self, rfl, rfl, rfl⟩
      · obtain ⟨f, hf, hkey⟩ := ih
        exact ⟨f, List.mem_cons_of_mem _ hf, hkey⟩

/-- The entries of other watches stand as they were. -/
theorem mem_recordCrossing_other {n k : Nat} {c : Crossing} {es : List PendingEntry} {e : PendingEntry}
    (he : ¬(e.account = n ∧ e.watch = k)) : e ∈ recordCrossing n k c es ↔ e ∈ es := by
  have hnew : e ≠ PendingEntry.new n k c := by
    rintro rfl
    exact he ⟨rfl, rfl⟩
  induction es with
  | nil => simp [recordCrossing, hnew]
  | cons x xs ih =>
    unfold recordCrossing
    split
    · rename_i hx
      have hkey : x.account = n ∧ x.watch = k := by simpa [PendingEntry.isOf] using hx
      have hrecord : e ≠ x.record c := by
        rintro rfl
        exact he hkey
      have hsame : e ≠ x := by
        rintro rfl
        exact he hkey
      simp [hrecord, hsame]
    · split
      · simp [hnew]
      · simp [ih]

theorem PortState.enroll_pendingSet (p : Port) (n : Nat) (x : PortState) (c : Crossed) : (x.enroll p n c).pendingSet =
    if c.route.get p then recordCrossing n c.watch c.kind x.pendingSet else x.pendingSet := by
  unfold PortState.enroll
  split <;> rfl

/-- Crossings change the pending set of a port alone. -/
theorem PortState.enrolled_eq (p : Port) (n : Nat) (cs : List Crossed) (x : PortState) :
    cs.foldl (PortState.enroll p n) x =
      { x with pendingSet := (cs.foldl (PortState.enroll p n) x).pendingSet } := by
  induction cs generalizing x with
  | nil => rfl
  | cons c cs ih =>
    rw [List.foldl_cons, ih]
    unfold PortState.enroll
    split <;> rfl

/-- An entry that no routed crossing is of stands as it was. -/
theorem PortState.mem_enrolled_other {p : Port} {n : Nat} {cs : List Crossed} {x : PortState} {e : PendingEntry}
    (h : ∀ c ∈ cs, c.route.get p = true → ¬(e.account = n ∧ e.watch = c.watch)) :
    e ∈ (cs.foldl (PortState.enroll p n) x).pendingSet ↔ e ∈ x.pendingSet := by
  induction cs generalizing x with
  | nil => rfl
  | cons c cs ih =>
    obtain ⟨hfirst, hrest⟩ := List.forall_mem_cons.mp h
    rw [List.foldl_cons, ih hrest, PortState.enroll_pendingSet]
    split
    · exact mem_recordCrossing_other (hfirst ‹_›)
    · rfl

/-- A crossing that each of the list's crossings of its watch agrees with stands as the latest one. -/
theorem PortState.exists_enrolled {p : Port} {n k : Nat} {d : Crossing} {cs : List Crossed} {x : PortState}
    (hsame : ∀ c ∈ cs, c.watch = k → c.kind = d)
    (h : (∃ c ∈ cs, c.watch = k ∧ c.route.get p = true)
      ∨ ∃ e ∈ x.pendingSet, e.account = n ∧ e.watch = k ∧ e.latest = d) :
    ∃ e ∈ (cs.foldl (PortState.enroll p n) x).pendingSet, e.account = n ∧ e.watch = k ∧ e.latest = d := by
  induction cs generalizing x with
  | nil =>
    obtain ⟨c, hc, _⟩ | h := h
    · cases hc
    · exact h
  | cons c cs ih =>
    obtain ⟨hfirst, hrest⟩ := List.forall_mem_cons.mp hsame
    refine ih hrest ?_
    rw [PortState.enroll_pendingSet]
    by_cases hk : c.watch = k ∧ c.route.get p = true
    · obtain ⟨rfl, hroute⟩ := hk
      rw [if_pos hroute, ← hfirst rfl]
      exact .inr (exists_recordCrossing n c.watch c.kind x.pendingSet)
    · obtain ⟨b, hb, hkb, hroute⟩ | ⟨e, he, haccount, hwatch, hlatest⟩ := h
      · obtain rfl | hb := List.mem_cons.mp hb
        · exact absurd ⟨hkb, hroute⟩ hk
        · exact .inl ⟨b, hb, hkb, hroute⟩
      · refine .inr ⟨e, ?_, haccount, hwatch, hlatest⟩
        split
        · rename_i hroute
          refine (mem_recordCrossing_other fun hkey => hk ⟨?_, hroute⟩).mpr he
          rw [← hkey.2, hwatch]
        · exact he

/-- An account's record and the crossings of its event take effect: no other account changes, and each change of a watch
stands in the pending sets of its route (R134 to R136). -/
theorem State.setEvaluated_accountBecomes {s : State} {n : Nat} {a : Account} {r : Account × List Crossed}
    (hn : n < 24) (h : a.Tracks r) : AccountBecomes s (s.setEvaluated n r) n a r.1 := by
  have hport (p : Port) : (s.setEvaluated n r).port p = r.2.foldl (PortState.enroll p n) (s.port p) :=
    State.route_port _ n r.2 p
  refine ⟨s.setEvaluated_accountsAndPorts n r, ?_, fun m hm => ?_, fun p => ⟨?_, fun k w v hw hv hne hroute => ?_,
    fun e he => ?_⟩⟩
  · rw [State.setEvaluated_account _ _ _ _ hn, if_pos rfl]
  · rw [State.setEvaluated_account _ _ _ _ hn, if_neg hm]
  · rw [hport]
    exact PortState.enrolled_eq p n r.2 _
  · rw [hport]
    refine PortState.exists_enrolled (fun x hx hk => ?_) (.inl ⟨_, h.complete k w v hw hv hne, rfl, hroute⟩)
    obtain ⟨w', v', hw', hv', _, _, hkind⟩ := h.sound x hx
    rw [hk] at hv'
    cases hv.symm.trans hv'
    exact hkind
  · rw [hport]
    refine PortState.mem_enrolled_other fun x hx hroute hkey => ?_
    obtain ⟨haccount, hwatch⟩ := hkey
    obtain ⟨w, v, hw, hv, hne, hsame, _⟩ := h.sound x hx
    rw [← hwatch] at hw hv
    have := he w v haccount hw hv hne
    rw [← hsame, hroute] at this
    cases this

/-! ### The close operation (R109, R115 to R117) -/

theorem Ring.nextSlot_eq (r : Ring) : r.nextSlot = slotAfter r := by
  unfold Ring.nextSlot slotAfter
  cases r.records.getLast? <;> rfl

theorem Ring.full_iff (r : Ring) : r.full = true ↔ 32 ≤ r.records.length := by
  rw [Ring.full, decide_eq_true_eq]
  exact Iff.rfl

/-- A TOTAL watch on zeroed bins is evaluated at 0, and no other watch is (R117, R133). -/
theorem Account.evaluate_zeroed {a b : Account} (hb : b.bins = a.bins.map Bin.zeroed) {i : Nat} {w : Watch}
    (hw : b.watches[i]? = some w) : (b.evaluate none).1.watches[i]? =
      some (if w.enabled = true ∧ w.measure = .total ∧ w.bin < a.bins.length then watchAt w 0 else w) := by
  have hbin : (b.bins[w.bin]?).map (·.value) = if w.bin < a.bins.length then some 0 else none := by
    rw [hb, List.getElem?_map]
    split
    · rename_i hlt
      rw [List.getElem?_eq_getElem hlt]
      rfl
    · rename_i hge
      rw [List.getElem?_eq_none (Nat.not_lt.mp hge)]
      rfl
  cases he : w.enabled with
  | false => simpa using Account.evaluate_watch_none hw (Account.measureOf_disabled he)
  | true =>
    cases hm : w.measure with
    | rate =>
      have hnone : b.measureOf none w = none := by rw [Account.measureOf_rate he hm]; rfl
      simpa using Account.evaluate_watch_none hw hnone
    | total =>
      have hmeasure := Account.measureOf_total (k := none) (a := b) he hm
      rw [hbin] at hmeasure
      by_cases hlt : w.bin < a.bins.length
      · rw [if_pos hlt] at hmeasure
        simpa [hlt] using Account.evaluate_watch_some hw hmeasure
      · rw [if_neg hlt] at hmeasure
        simpa [hlt] using Account.evaluate_watch_none hw hmeasure

theorem State.carryOut_ring (s : State) (a : Account) (c : CloseCause) : (a.carryOut s.moment c).ring = { a.ring with
    records := (if 32 ≤ a.ring.records.length then a.ring.records.drop 1 else a.ring.records) ++
      [{ writing := true, slot := slotAfter a.ring, cause := c, endSecond := s.time.second, header := a.header,
         values := a.bins.map (·.value) }] } := by
  have hfull := a.ring.full_iff
  unfold Account.carryOut Ring.join Account.recordOf
  rw [Ring.nextSlot_eq]
  simp only [hfull]
  rfl

/-- The bins after a close carried out: zeroed in RESET mode, as they stand in RUNNING mode (R117). -/
theorem Account.carryOut_bins (a : Account) (m : Moment) (c : CloseCause) : (a.carryOut m c).bins =
    if a.mode = .reset then a.bins.map (fun x => { x with value := 0, pinned := false }) else a.bins := rfl

/-- What a close carried out makes of the account, its watches evaluated in RESET mode (R116, R117, R133). -/
theorem Account.carriedOut (s : State) (a : Account) (c : CloseCause) {b : Account}
    (hb : b = if a.mode = .reset then ((a.carryOut s.moment c).evaluate none).1 else a.carryOut s.moment c) :
    CarriedOut s a c b := by
  have hring : b.ring = (a.carryOut s.moment c).ring := by rw [hb]; split <;> rfl
  have hheader : b.header = (a.carryOut s.moment c).header := by rw [hb]; split <;> rfl
  have hbins : b.bins = (a.carryOut s.moment c).bins := by rw [hb]; split <;> rfl
  refine ⟨hring.trans (s.carryOut_ring a c), hheader, hbins.trans (a.carryOut_bins _ c), fun k w hw => ?_, ?_⟩
  · rw [hb]
    by_cases hmode : a.mode = .reset
    · have hzeroed : (a.carryOut s.moment c).bins = a.bins.map Bin.zeroed := by
        rw [Account.carryOut_bins, if_pos hmode]
        rfl
      rw [if_pos hmode, Account.evaluate_zeroed hzeroed hw]
      simp [hmode]
    · rw [if_neg hmode]
      simp only [hmode, false_and, if_false]
      exact hw
  · rw [hring, hheader, hbins, hb]
    split <;> rfl

/-- A close begin meets the tests of R115 and is held, deferred or carried out. -/
theorem Account.closeBegin_closeBegun (s : State) (a : Account) (c : CloseCause) :
    CloseBegun s a c (a.closeBegin s.moment c).1 := by
  have hfull := a.ring.full_iff
  refine ⟨fun hw hp => ?_, fun hw hp => ?_, fun hw hhold hlen => ?_, fun hw hroom => ?_⟩
  · rw [Account.closeBegin, if_pos hw, hp]
  · obtain ⟨k, hk⟩ := Option.ne_none_iff_exists'.mp hp
    have hmerged : a.closeBegin s.moment c = (a.merge, []) := by simp [Account.closeBegin, hw, hk]
    rw [hmerged]
    rfl
  · rw [Account.closeBegin, if_neg (by simp [hw]), if_pos ⟨hhold, hfull.mpr hlen⟩]
    rfl
  · refine a.carriedOut s c ?_
    have hnot : ¬(a.policy = .hold ∧ a.ring.full = true) := by
      rintro ⟨hhold, hf⟩
      obtain hwrap | hlt := hroom
      · cases hwrap.symm.trans hhold
      · have := hfull.mp hf
        omega
    rw [Account.closeBegin, if_neg (by simp [hw]), if_neg hnot]
    split <;> rfl

theorem Account.closeBegin_tracks (a : Account) (m : Moment) (c : CloseCause) : a.Tracks (a.closeBegin m c) := by
  obtain ⟨_, _, he⟩ | ⟨_, _, he⟩ | ⟨_, _, _, he⟩ | ⟨_, _, _, he⟩ | ⟨_, _, _, he⟩ := a.closeBegin_cases m c <;> rw [he]
  · exact .plain rfl
  · exact .plain rfl
  · exact .plain rfl
  · exact ((a.carryOut m c).evaluate_tracks none).of_watches rfl
  · exact .plain rfl

/-- A close begin leaves the state of the account (R115). -/
theorem Account.closeBegin_suspended (a : Account) (m : Moment) (c : CloseCause) :
    (a.closeBegin m c).1.suspended = a.suspended ∧ (a.closeBegin m c).1.timerDue = a.timerDue := by
  obtain ⟨_, _, he⟩ | ⟨_, _, he⟩ | ⟨_, _, _, he⟩ | ⟨_, _, _, he⟩ | ⟨_, _, _, he⟩ := a.closeBegin_cases m c <;>
    rw [he] <;> exact ⟨rfl, rfl⟩

end Sys2Proof.Machine

/-! The posting of a record (5.5): what it books, when it skips or passes over, and the band-change close in front. -/

namespace Sys2Proof.Machine

/-! ### Two events of one account in a row -/

theorem State.routeTo_setAccount (s : State) (n m : Nat) (x : Crossed) (p : Port) (y : Option Account) :
    (s.routeTo n x p).setAccount m y = (s.setAccount m y).routeTo n x p := by
  unfold State.routeTo
  split <;> rfl

theorem State.route_setAccount (s : State) (n m : Nat) (xs : List Crossed) (y : Option Account) :
    (s.route n xs).setAccount m y = (s.setAccount m y).route n xs := by
  induction xs generalizing s with
  | nil => rfl
  | cons x xs ih => rw [State.route, State.route, ih, routeTo_setAccount, routeTo_setAccount, routeTo_setAccount]

theorem State.route_append (s : State) (n : Nat) (xs ys : List Crossed) :
    s.route n (xs ++ ys) = (s.route n xs).route n ys := by
  induction xs generalizing s with
  | nil => rfl
  | cons x xs ih => rw [List.cons_append, State.route, ih, State.route]

theorem State.setAccount_setAccount (s : State) (n : Nat) (x y : Option Account) :
    (s.setAccount n x).setAccount n y = s.setAccount n y := by
  simp [State.setAccount]

/-- Two changes of one account with their crossings are one with the crossings of both (R94 to R98). -/
theorem State.setEvaluated_setEvaluated (s : State) (n : Nat) (x y : Account × List Crossed) :
    (s.setEvaluated n x).setEvaluated n y = s.setEvaluated n (y.1, x.2 ++ y.2) := by
  unfold State.setEvaluated
  rw [State.route_setAccount, State.setAccount_setAccount, State.route_append]

theorem State.setEvaluated_plain (s : State) (n : Nat) (a : Account) : s.setEvaluated n (a, []) = s.setAccount n (some a) :=
  rfl

/-! ### Bookings (R83, R96 to R98) -/

/-- The increments that figures carry, none for a GAP (R96). -/
def Figures.carried : Figures → Option (List Nat)
  | .valid incs _ => some incs
  | .substituted incs => some incs
  | .gap => none

/-- A bin with an increment added, held at the top with its pinned mark (R83). -/
def Bin.plus (x : Bin) (inc : Nat) : Bin :=
  { x with
    value := min 9223372036854775807 (x.value + inc)
    pinned := x.pinned || decide (9223372036854775807 < x.value + inc) }

theorem Bin.add_eq_plus (x : Bin) (inc : Nat) : x.add inc = x.plus inc := by
  unfold Bin.add Bin.plus Config.binMax
  split
  · rename_i h
    simp [h, Nat.min_eq_left h.le]
  · rename_i h
    simp [h, Nat.min_eq_right (Nat.not_lt.mp h)]

theorem Bin.book_gap (x : Bin) {f : Figures} (h : f.carried = none) : x.book f = x := by
  cases f <;> simp_all [Figures.carried, Bin.book, Figures.incrementOf]

theorem Bin.book_carried (x : Bin) {f : Figures} {incs : List Nat} (h : f.carried = some incs) :
    x.book f = x.plus (incs.getD x.code 0) := by
  rw [← Bin.add_eq_plus]
  cases f <;> simp_all [Figures.carried, Bin.book, Figures.incrementOf, Figures.increments]

theorem Account.booked_gap (a : Account) {r : ResultRecord} (h : r.figures.carried = none) : a.booked r = none := by
  cases hf : r.figures <;> simp_all [Figures.carried, Account.booked]

theorem Account.booked_carried (a : Account) {r : ResultRecord} {incs : List Nat} (h : r.figures.carried = some incs) :
    a.booked r = some { amounts := a.bins.map fun b => b.received (incs.getD b.code 0), ticks := r.ticks } := by
  cases hf : r.figures <;>
    simp_all [Figures.carried, Account.booked, Figures.incrementOf, Figures.increments]

theorem Figures.carried_eq_none (f : Figures) : f.carried = none ↔ f = .gap := by
  cases f <;> simp [Figures.carried]

/-- The tally that a booking leaves: the window noted, and the record counted in its disposition (R97). -/
theorem Tally.book_eq (x : Tally) (r : ResultRecord) :
    (x.book r).windows = some ((x.windows.map (·.1)).getD r.window, r.window) ∧ (x.book r).skipped = x.skipped
      ∧ ((x.book r).valid, (x.book r).substituted, (x.book r).gap) = match r.figures with
        | .valid _ _ => (min 4294967295 (x.valid + 1), x.substituted, x.gap)
        | .substituted _ => (x.valid, min 4294967295 (x.substituted + 1), x.gap)
        | .gap => (x.valid, x.substituted, min 4294967295 (x.gap + 1)) := by
  unfold Tally.book
  cases r.figures <;> exact ⟨rfl, rfl, rfl⟩

section
variable {r : ResultRecord} {a : Account} {k : Nat} {w : Watch} {x y : Bin}

theorem Account.book_bin (hx : a.bins[w.bin]? = some x) : (a.book r).bins[w.bin]? = some (x.book r.figures) := by
  simp [Account.book, hx]

/-- A TOTAL watch is evaluated at the value of its bin after the booking (R131, R133). -/
theorem Account.book_total (hw : a.watches[k]? = some w) (he : w.enabled = true) (hm : w.measure = .total)
    (hy : (a.book r).bins[w.bin]? = some y) :
    ((a.book r).evaluate (a.booked r)).1.watches[k]? = some (watchAt w y.value) := by
  refine Account.evaluate_watch_some (a := a.book r) hw ?_
  rw [Account.measureOf_total he hm, hy]
  rfl

/-- A RATE watch is not evaluated at the booking of a GAP (R131). -/
theorem Account.book_rate_gap (hw : a.watches[k]? = some w) (he : w.enabled = true) (hm : w.measure = .rate)
    (hg : r.figures = .gap) : ((a.book r).evaluate (a.booked r)).1.watches[k]? = some w := by
  refine Account.evaluate_watch_none (a := a.book r) hw ?_
  rw [a.booked_gap ((r.figures.carried_eq_none).mpr hg), Account.measureOf_rate he hm]
  rfl

/-- A RATE watch is evaluated at the amount its bin received and the length of the window (R132). -/
theorem Account.book_rate (hw : a.watches[k]? = some w) (he : w.enabled = true) (hm : w.measure = .rate)
    (hg : r.figures ≠ .gap) (hx : a.bins[w.bin]? = some x) (hy : (a.book r).bins[w.bin]? = some y) :
    ((a.book r).evaluate (a.booked r)).1.watches[k]? = some (watchAt w (min 18446744073709551615
      (roundDiv (((y.value - x.value) * 36000000000 : Nat) : Int) (r.ticks : Nat)).toNat)) := by
  obtain ⟨incs, hincs⟩ := Option.ne_none_iff_exists'.mp (mt (r.figures.carried_eq_none).mp hg)
  have hyx : y = x.add (incs.getD x.code 0) := by
    rw [Account.book_bin hx, Bin.book_carried x hincs, ← Bin.add_eq_plus] at hy
    exact (Option.some_inj.mp hy).symm
  refine Account.evaluate_watch_some (a := a.book r) hw ?_
  rw [a.booked_carried hincs, Account.measureOf_rate he hm]
  simp only [Option.bind_some, List.getElem?_map, hx, Option.map_some, Bin.received, ← hyx]
  rfl

/-- A disabled watch, and one past the bin list, stand (R129). -/
theorem Account.book_untouched (hw : a.watches[k]? = some w) (h : w.enabled = false ∨ a.bins[w.bin]? = none) :
    ((a.book r).evaluate (a.booked r)).1.watches[k]? = some w := by
  refine Account.evaluate_watch_none (a := a.book r) hw ?_
  obtain he | hnone := h
  · exact Account.measureOf_disabled he
  · cases he : w.enabled with
    | false => exact Account.measureOf_disabled he
    | true =>
      cases hm : w.measure with
      | total =>
        rw [Account.measureOf_total he hm]
        simp [Account.book, hnone]
      | rate =>
        rw [Account.measureOf_rate he hm]
        cases hincs : r.figures.carried with
        | none => rw [a.booked_gap hincs]; rfl
        | some incs =>
          rw [a.booked_carried hincs]
          simp [hnone]

end

theorem Account.book_bookedInto (r : ResultRecord) (a : Account) :
    BookedInto r a ((a.book r).evaluate (a.booked r)).1 := by
  refine ⟨?_, rfl, ?_, ?_, fun k w hw => ⟨fun h => Account.book_untouched hw h, fun x y hx hy he =>
    ⟨fun hm => Account.book_total hw he hm hy, fun hm hg => Account.book_rate_gap hw he hm hg,
      fun hm hg => Account.book_rate hw he hm hg hx hy⟩⟩, rfl⟩
  · have hbins : ((a.book r).evaluate (a.booked r)).1.bins = a.bins.map fun b => b.book r.figures := rfl
    rw [hbins]
    refine List.map_congr_left fun x _ => ?_
    cases hf : r.figures with
    | valid incs raw => exact Bin.book_carried x rfl
    | substituted incs => exact Bin.book_carried x rfl
    | gap => exact Bin.book_gap x rfl
  · have hheader : ((a.book r).evaluate (a.booked r)).1.header =
        a.header.book r ((a.book r).bins.any (·.pinned)) := rfl
    rw [hheader]
    unfold Header.book
    simp only [PerIncomer.get_set, if_true]
    rfl
  · rintro x y rfl rfl
    have htally : ((a.book r).evaluate (a.booked r)).1.header.tally.get r.incomer =
        (a.header.tally.get r.incomer).book r := by
      have hheader : ((a.book r).evaluate (a.booked r)).1.header.tally =
        a.header.tally.set r.incomer ((a.header.tally.get r.incomer).book r) := rfl
      rw [hheader, PerIncomer.get_set, if_pos rfl]
    rw [htally]
    exact Tally.book_eq _ r

/-! ### The posting unit (R92 to R95) -/

theorem Posting.after_takeNext (u : Posting) (v : Visit) : { u with current := v.after }.takeNext = postingAfter u v := by
  obtain ⟨waiting, current⟩ := u
  unfold Visit.after postingAfter
  split
  · rfl
  · cases waiting <;> rfl

theorem execPosting_some {s : State} {v : Visit} (h : s.posting.current = some v) : exec .posting s =
    .next { s.postTo v.position v.record with posting := postingAfter s.posting v } := by
  have hposting : (s.postTo v.position v.record).posting = s.posting :=
    (s.postTo_leaves (f := { accounts := true }) rfl v.position v.record).posting rfl
  simp only [exec, execPosting, h, hposting, Posting.after_takeNext]

theorem Account.applies_iff (a : Account) (r : ResultRecord) : a.applies r = true ↔ Applies a r := by
  unfold Account.applies Applies
  rw [Bool.and_eq_true]
  refine and_congr_left fun _ => ?_
  cases a.scope <;> cases r.incomer <;> simp [Scope.takes]

theorem Account.bandChanged_iff (a : Account) (r : ResultRecord) : a.bandChanged r = true ↔ BandChanges a r := by
  unfold Account.bandChanged BandChanges
  rw [Bool.and_eq_true]
  refine and_congr_right fun _ => ?_
  cases a.lastBand <;> simp

theorem Account.post_passed {a : Account} {r : ResultRecord} (h : ¬Applies a r) (m : Moment) : a.post m r = (a, []) := by
  rw [← Account.applies_iff] at h
  simp [Account.post, h]

theorem Account.post_same_band {a : Account} {r : ResultRecord} (h : Applies a r) (hb : ¬BandChanges a r) (m : Moment) :
    a.post m r = a.count r := by
  rw [← Account.applies_iff] at h
  rw [← Account.bandChanged_iff] at hb
  simp [Account.post, h, hb]

theorem Account.post_band_change {a : Account} {r : ResultRecord} (h : Applies a r) (hb : BandChanges a r) (m : Moment) :
    a.post m r = (((a.closeBegin m .bandChange).1.count r).1,
      (a.closeBegin m .bandChange).2 ++ ((a.closeBegin m .bandChange).1.count r).2) := by
  rw [← Account.applies_iff] at h
  rw [← Account.bandChanged_iff] at hb
  simp [Account.post, h, hb]

theorem Account.count_open {a : Account} (h : a.suspended = false) (r : ResultRecord) :
    a.count r = (a.book r).evaluate (a.booked r) := by simp [Account.count, h]

theorem Account.count_suspended {a : Account} (h : a.suspended = true) (r : ResultRecord) :
    a.count r = ({ a with header := a.header.skip r }, []) := by simp [Account.count, h]

theorem State.postTo_some {s : State} {n : Nat} {a : Account} (h : s.account n = some a) (r : ResultRecord) :
    s.postTo n r = s.setEvaluated n (a.post s.moment r) := by simp [State.postTo, h]

/-- The posting with the close of a band change in front is the close and then the counting (R94). -/
theorem State.postTo_band_change {s : State} {n : Nat} {a : Account} {r : ResultRecord} (h : s.account n = some a)
    (ha : Applies a r) (hb : BandChanges a r) : s.postTo n r =
      (s.setEvaluated n (a.closeBegin s.moment .bandChange)).setEvaluated n
        ((a.closeBegin s.moment .bandChange).1.count r) := by
  rw [State.postTo_some h, Account.post_band_change ha hb, State.setEvaluated_setEvaluated]

theorem Account.book_tracks (a : Account) (r : ResultRecord) : a.Tracks ((a.book r).evaluate (a.booked r)) :=
  ((a.book r).evaluate_tracks _).of_watches rfl

/-- Settles O22. -/
theorem postingBooksTheRecord : Obligations.PostingBooksTheRecord := by
  intro s v a hv ha hopen happlies
  have hn := State.lt_of_account_some ha
  rw [execPosting_some hv]
  refine ⟨fun hband => ?_, fun hband => ?_⟩
  · refine ⟨_, _, State.setEvaluated_accountBecomes hn (a.book_tracks v.record), Account.book_bookedInto v.record a, ?_⟩
    rw [State.postTo_some ha, Account.post_same_band happlies hband, Account.count_open hopen]
  · obtain ⟨hsuspended, _⟩ := a.closeBegin_suspended s.moment .bandChange
    refine ⟨_, _, _, _, State.setEvaluated_accountBecomes hn (a.closeBegin_tracks s.moment .bandChange),
      a.closeBegin_closeBegun s .bandChange, State.setEvaluated_accountBecomes hn (Account.book_tracks _ v.record),
      Account.book_bookedInto v.record _, ?_⟩
    rw [State.postTo_band_change ha happlies hband, Account.count_open (hsuspended.trans hopen)]

theorem State.setAccount_same {s : State} {n : Nat} {a : Account} (h : s.account n = some a) :
    s.setAccount n (some a) = s := by
  have haccounts : s.accounts.setIfInBounds n (some a) = s.accounts := by
    refine vector_ext_getElem? fun k => ?_
    rw [Vector.getElem?_setIfInBounds]
    split
    · rename_i hk
      subst hk
      have hlt := State.lt_of_account_some h
      rw [if_pos hlt]
      unfold State.account at h
      rw [Vector.getElem?_eq_getElem hlt] at h ⊢
      exact congrArg some h.symm
    · rfl
  rw [State.setAccount, haccounts]

/-- Settles O23. -/
theorem postingPassesOverOrSkips : Obligations.PostingPassesOverOrSkips := by
  intro s v hv
  rw [execPosting_some hv]
  refine ⟨fun hnone => ?_, fun a ha hsuspended happlies skipped hskipped => ⟨fun hband => ?_, fun hband => ?_⟩⟩
  · have hsame : s.postTo v.position v.record = s := by
      cases ha : s.account v.position with
      | none => simp [State.postTo, ha]
      | some a =>
        rw [State.postTo_some ha, Account.post_passed (hnone a ha), State.setEvaluated_plain, State.setAccount_same ha]
    rw [hsame]
  · rw [State.postTo_some ha, Account.post_same_band happlies hband, Account.count_suspended hsuspended,
      State.setEvaluated_plain, hskipped]
    rfl
  · obtain ⟨hstays, _⟩ := a.closeBegin_suspended s.moment .bandChange
    refine ⟨_, _, State.setEvaluated_accountBecomes (State.lt_of_account_some ha)
      (a.closeBegin_tracks s.moment .bandChange), a.closeBegin_closeBegun s .bandChange, ?_⟩
    rw [State.postTo_band_change ha happlies hband, Account.count_suspended (hstays.trans hsuspended),
      State.setEvaluated_plain, hskipped]
    rfl

end Sys2Proof.Machine

/-! The requests on accounts and their close events (chapters 5 to 7), request by request. -/

namespace Sys2Proof.Machine

/-! ### The owner's requests -/

/-- What the owner's request answers, and with which state. -/
theorem next_onAccount {s : State} {p : Port} {code : Nat} {r : Request} {a : Account} {need : Need} (h : s.inFlight p code r)
    (ha : s.account r.account = some a) (howner : ownerOf r.account = p) {act : Request → Account → Response × State}
    {x : Response} {t : State} (hact : act r a = (x, t)) :
    Host.Outcome.next (σ := State) (φ := Fault) (ρ := Refusal)
      (s.take p code fun q => s.onAccount p q.account need (act q)) = .next (t.respond p r.code x) := by
  rw [State.take_onAccount_of_owner need act h ha howner, hact]

theorem State.respond_slot (s : State) (p : Port) (code : Byte) (x : Response) :
    ((s.respond p code x).port p).slot = .answered code x := by simp [State.respond]

theorem State.respond_pendingSet (s : State) (p q : Port) (code : Byte) (x : Response) :
    ((s.respond p code x).port q).pendingSet = (s.port q).pendingSet := by
  rw [State.respond, State.updPort_port]
  split
  · rename_i hq
    rw [hq]
  · rfl

theorem PortsOnly.rest {s t : State} (h : PortsOnly s t) : t.joint = s.joint ∧ t.time = s.time ∧ t.freeze = s.freeze :=
  have hl := h.leaves {}
  ⟨hl.joint rfl, hl.time rfl, hl.freeze rfl⟩

/-! ### OPEN_ACCOUNT (O24) -/

theorem rightOf_eq_none {c : Nat} (h : c < 4) : rightOf c = none ↔ c = 3 := by interval_cases c <;> decide

theorem scopeOf_eq_none {c : Nat} (h : c < 4) : scopeOf c = none ↔ c = 3 := by interval_cases c <;> decide

/-- Step 3 of R85: a field of two bits names no scope or right by its code 3 alone. -/
theorem OpenFields.invalid_iff {f : OpenFields} (hs : f.scope < 4) (hx : f.first < 4) (hy : f.second < 4) :
    f.invalid = true ↔ f.binCount = 0 ∨ 40 < f.binCount ∨ (∃ c ∈ f.codes, 33 < c) ∨ f.bandMask = 0 ∨ 86400 < f.period
      ∨ f.scope = 3 ∨ f.first = 3 ∨ f.second = 3 := by
  simp only [OpenFields.invalid, Bool.or_eq_true, beq_iff_eq, decide_eq_true_eq, List.any_eq_true, Option.isNone_iff_eq_none,
    rightOf_eq_none hx, rightOf_eq_none hy, scopeOf_eq_none hs, or_assoc]
  exact Iff.rfl

theorem ownsSlot_iff {p : Port} {n : Nat} : ownsSlot p n = true ↔ n < 24 ∧ ownerOf n = p := by simp [ownsSlot]

theorem OpenFields.account_bin {f : OpenFields} {m : Moment} {k : Nat} {b : Bin} (h : (f.account m).bins[k]? = some b) :
    b.value = 0 ∧ b.pinned = false ∧ b.ownerOnly = binSetBit f.visibility k := by
  simp only [OpenFields.account, List.getElem?_map, List.getElem?_zipIdx, Option.map_map, Option.map_eq_some_iff] at h
  obtain ⟨c, _, rfl⟩ := h
  exact ⟨rfl, rfl, by simp⟩

theorem OpenFields.account_codes (f : OpenFields) (m : Moment) : (f.account m).bins.map (·.code) = f.codes := by
  simp [OpenFields.account, Function.comp_def]

theorem OpenFields.account_header (f : OpenFields) (s : State) : (f.account s.moment).header = {
    sequence := 0, startSecond := s.time.second, epochs := none, tally := { a := Tally.zero, b := Tally.zero },
    merged := 0, interruptions := if s.retention.interrupted then 1 else 0, limited := false, pinnedAny := false,
    cleared := false, freeRunning := s.time.state != .tracking, timeSet := false, timeSuspect := false,
    epochChanged := false } := rfl

theorem OpenFields.account_watch {f : OpenFields} {m : Moment} {w : Watch} (h : w ∈ (f.account m).watches.toList) :
    w = Watch.initial := by simpa [OpenFields.account] using h

theorem option_getD_of_ne_none {α : Type} {x : Option α} (h : x ≠ none) (d : α) : x = some (x.getD d) := by
  cases x with
  | none => exact absurd rfl h
  | some y => rfl

/-- Settles O24. -/
theorem openAccountOpensAFreeSlot : Obligations.OpenAccountOpensAFreeSlot := by
  intro s p r f h hf
  have hscope : f.scope < 4 := hf ▸ ((r.word 1).extractLsb' 14 2).isLt
  have hfirst : f.first < 4 := hf ▸ ((r.word 1).extractLsb' 9 2).isLt
  have hsecond : f.second < 4 := hf ▸ ((r.word 1).extractLsb' 7 2).isLt
  refine ⟨fun hown => next_take h ?_, fun hslot howner => ⟨fun hused => next_take h ?_, fun hfree bad hbad => ?_⟩⟩
  · have hnot : ownsSlot p f.slot = false := by
      rw [← Bool.not_eq_true, ownsSlot_iff, not_and_or, Nat.not_lt]
      exact hown
    simp [← hf, hnot]
  · simp [← hf, ownsSlot_iff.mpr ⟨hslot, howner⟩, hused]
  · have howns := ownsSlot_iff.mpr ⟨hslot, howner⟩
    rw [← OpenFields.invalid_iff hscope hfirst hsecond] at hbad
    subst hbad
    refine ⟨fun hinvalid => next_take h ?_, fun hvalid hrepeats => next_take h ?_, fun hvalid hnodup =>
      ⟨f.account s.moment, next_take h ?_, rfl, f.account_codes _, fun k b hb => OpenFields.account_bin hb, ?_, rfl, rfl,
        rfl, rfl, rfl, ?_, ?_, f.account_header s, rfl, rfl, rfl, rfl, rfl, fun w hw => OpenFields.account_watch hw⟩⟩
    · simp [← hf, howns, hfree, hinvalid]
    · simp [← hf, howns, hfree, hvalid, OpenFields.repeats, hrepeats]
    · simp [← hf, howns, hfree, hvalid, OpenFields.repeats, hnodup]
    all_goals
      rw [OpenFields.invalid_iff hscope hfirst hsecond] at hvalid
      refine option_getD_of_ne_none (fun hnone => hvalid ?_) _
    · simp [(scopeOf_eq_none hscope).mp hnone]
    · simp [(rightOf_eq_none hfirst).mp hnone]
    · simp [(rightOf_eq_none hsecond).mp hnone]

/-! ### SET_RIGHTS (O25) -/

theorem Account.trimRoute_get (a : Account) (n : Nat) (w : Watch) (p : Port) :
    (a.trimRoute n w).route.get p = (w.route.get p && a.qualified n w.bin p) := by cases p <;> rfl

theorem Account.unqualifiedEntry_eq_false {a : Account} {n : Nat} {p : Port} {e : PendingEntry} :
    a.unqualifiedEntry n p e = false ↔
      ¬(e.account = n ∧ ∃ w, a.watches[e.watch]? = some w ∧ a.qualified n w.bin p = false) := by
  unfold Account.unqualifiedEntry
  cases a.watches[e.watch]? <;> simp

theorem Account.withRights_bin {a : Account} {x : Rights} {v : List Word} {k : Nat} {u : Bin} (h : a.bins[k]? = some u) :
    (a.withRights x v).bins[k]? = some { u with ownerOnly := binSetBit v k } := by
  simp [Account.withRights, List.getElem?_zipIdx, h]

theorem Account.withRights_length (a : Account) (x : Rights) (v : List Word) :
    (a.withRights x v).bins.length = a.bins.length := by simp [Account.withRights]

/-- Settles O25. -/
theorem setRightsReplacesAndTrims : Obligations.SetRightsReplacesAndTrims := by
  intro s p r a h ha howner x y hx hy
  have hx4 : x < 4 := hx ▸ ((r.word 1).extractLsb' 9 2).isLt
  have hy4 : y < 4 := hy ▸ ((r.word 1).extractLsb' 7 2).isLt
  refine ⟨fun hbad => next_onAccount h ha howner ?_, fun hx3 hy3 => ?_⟩
  · simp only [← hx, ← hy]
    obtain rfl | rfl := hbad
    · rfl
    · cases rightOf x <;> rfl
  · obtain ⟨u, hu⟩ := Option.ne_none_iff_exists'.mp (mt (rightOf_eq_none hx4).mp hx3)
    obtain ⟨v, hv⟩ := Option.ne_none_iff_exists'.mp (mt (rightOf_eq_none hy4).mp hy3)
    obtain ⟨b, hb⟩ : ∃ b, b = (a.withRights ⟨u, v⟩ [r.word 2, r.word 3, r.word 4]).trim r.account := ⟨_, rfl⟩
    have hn := State.lt_of_account_some ha
    obtain ⟨hjoint, htime, hfreeze⟩ := (State.dropUnqualified_portsOnly (s.setAccount r.account (some b)) r.account b).rest
    have hbins : b.bins = (a.withRights ⟨u, v⟩ [r.word 2, r.word 3, r.word 4]).bins := by rw [hb]; rfl
    refine ⟨_, b, next_onAccount h ha howner (x := .done)
      (t := (s.setAccount r.account (some b)).dropUnqualified r.account b) ?_, State.respond_slot _ p _ _, ?_, ?_, ?_, ?_,
      fun k u hk => ?_, fun k w hw => ⟨b.trimRoute r.account w, ?_, rfl, b.trimRoute_get r.account w⟩, ?_, fun q e => ?_,
      fun n hne => ?_, hjoint, htime,
      hfreeze⟩
    · simp only [← hx, ← hy, hu, hv, hb]
    · rw [State.respond_account, (State.dropUnqualified_portsOnly _ _ _).account, State.setAccount_account _ _ _ _ hn,
        if_pos rfl]
    · rw [hb, hu]; rfl
    · rw [hb, hv]; rfl
    · rw [hbins, Account.withRights_length]
    · rw [hbins, Account.withRights_bin hk]
    · rw [hb, Account.trim, mapVec_getElem?, show (a.withRights _ _).watches = a.watches from rfl, hw]
      rfl
    · rw [hb]; rfl
    · rw [State.respond_pendingSet, State.mem_dropUnqualified, Account.unqualifiedEntry_eq_false]
      rfl
    · rw [State.respond_account, (State.dropUnqualified_portsOnly _ _ _).account, State.setAccount_account_ne _ _ _ _ hne]

/-! ### CLEAR_BINS, TEARDOWN (O27, O28) -/

/-- Settles O27. -/
theorem clearBinsClearsTheInterval : Obligations.ClearBinsClearsTheInterval := by
  intro s p r a h ha howner
  exact ⟨_, _, next_onAccount h ha howner rfl, State.setEvaluated_accountBecomes (State.lt_of_account_some ha)
    ((a.clearBins.evaluate_tracks none).of_watches rfl), rfl, fun k w hw => Account.evaluate_zeroed rfl hw⟩

/-- Settles O28. -/
theorem teardownFreesTheSlot : Obligations.TeardownFreesTheSlot := by
  intro s p r a h ha howner
  refine ⟨fun hw => next_onAccount h ha howner ?_, fun hw hheld => next_onAccount h ha howner ?_, fun hempty => ?_⟩
  · exact if_pos hw
  · exact (if_neg (by simp [hw])).trans (if_pos hheld)
  · have hw : ¬a.ring.writing = true := by simp [Ring.writing, hempty]
    obtain ⟨hjoint, htime, hfreeze⟩ := (State.dropPendingAll_portsOnly (s.setAccount r.account none)
      fun e => e.account == r.account).rest
    refine ⟨_, next_onAccount h ha howner (x := .done)
      (t := (s.setAccount r.account none).dropPendingAll fun e => e.account == r.account) ?_, State.respond_slot _ p _ _, ?_,
      fun n hne => ?_, fun q e => ?_, hjoint, htime, hfreeze⟩
    · exact (if_neg hw).trans (if_neg (not_not.mpr hempty))
    · rw [State.respond_account, (State.dropPendingAll_portsOnly _ _).account,
        State.setAccount_account _ _ _ _ (State.lt_of_account_some ha), if_pos rfl]
    · rw [State.respond_account, (State.dropPendingAll_portsOnly _ _).account, State.setAccount_account_ne _ _ _ _ hne]
    · rw [State.respond_pendingSet, State.mem_dropPendingAll, beq_eq_false_iff_ne]
      rfl

/-! ### Closes (O32 to O35) -/

/-- Settles O32. -/
theorem closeIntervalMeetsTheTests : Obligations.CloseIntervalMeetsTheTests := by
  intro s p r a h ha howner
  exact ⟨_, _, next_onAccount h ha howner rfl,
    State.setEvaluated_accountBecomes (State.lt_of_account_some ha) (a.closeBegin_tracks s.moment .manual),
    a.closeBegin_closeBegun s .manual⟩

/-- A close begin with no record WRITING holds no close pending, and in a ring with room it defers none (R115). -/
theorem Account.closeBegin_pendingClose {a : Account} (h : a.ring.writing = false) (m : Moment) (c : CloseCause) :
    (a.closeBegin m c).1.pendingClose = a.pendingClose := by
  obtain ⟨hw, _, _⟩ | ⟨hw, _, _⟩ | ⟨_, _, _, he⟩ | ⟨_, _, _, he⟩ | ⟨_, _, _, he⟩ := a.closeBegin_cases m c
  · rw [h] at hw; cases hw
  · rw [h] at hw; cases hw
  all_goals rw [he]; rfl

theorem Account.pendingBegin_some {a : Account} {c : CloseCause} (h : a.pendingClose = some c) (m : Moment) :
    a.pendingBegin m = { a with pendingClose := none }.closeBegin m c := by simp [Account.pendingBegin, h]

theorem Account.deferredBegin_due {a : Account} (h : a.deferredClose = true) (m : Moment) :
    a.deferredBegin m = { a with deferredClose := false }.closeBegin m .deferred := by simp [Account.deferredBegin, h]

/-- Settles O33. -/
theorem heldAndTimerClosesAreCarriedOut : Obligations.HeldAndTimerClosesAreCarriedOut := by
  intro s n a ha
  have hn := State.lt_of_account_some ha
  refine ⟨fun hdue => ?_, fun c hc hw => ?_, fun hdue hw hroom => ?_⟩
  · refine ⟨_, _, ?_, State.setEvaluated_accountBecomes hn ((Account.closeBegin_tracks { a with timerDue := false }
      s.moment .timer).of_watches rfl), Account.closeBegin_closeBegun s _ .timer,
      (Account.closeBegin_suspended _ s.moment .timer).2⟩
    simp [exec, execTimerCloseBegin, ha, hdue]
  · refine ⟨_, _, ?_, State.setEvaluated_accountBecomes hn ((Account.closeBegin_tracks { a with pendingClose := none }
      s.moment c).of_watches rfl), Account.closeBegin_closeBegun s _ c,
      Account.closeBegin_pendingClose (a := { a with pendingClose := none }) hw s.moment c⟩
    simp [exec, execPendingCloseBegin, ha, hc, hw, Account.pendingBegin]
  · have hfull : ¬a.ring.full = true := mt a.ring.full_iff.mp (Nat.not_le.mpr hroom)
    obtain ⟨_, _, _, hcarried⟩ := Account.closeBegin_closeBegun s { a with deferredClose := false } .deferred
    have hb := hcarried hw (.inr hroom)
    obtain ⟨_, _, _, _, hrest⟩ := id hb
    refine ⟨_, _, ?_, State.setEvaluated_accountBecomes hn ((Account.closeBegin_tracks { a with deferredClose := false }
      s.moment .deferred).of_watches rfl), hb, by rw [hrest]⟩
    simp [exec, execDeferredCloseBegin, ha, hdue, hw, hfull, Account.deferredBegin]

/-! #### The record-written event -/

theorem State.raiseRecord_port (s : State) (n : Nat) (a : Account) (p q : Port) : (s.raiseRecord n a p).port q =
    if q = p ∧ a.readableBy n p = true then (s.port q).raise .record else s.port q := by
  unfold State.raiseRecord State.raiseIf
  cases hr : a.readableBy n p
  · simp
  · by_cases hq : q = p <;> simp [State.raise, hq]

/-- RECORD is raised to the ports that may read the account, and to no other (R118). -/
theorem State.raiseRecords_port (s : State) (n : Nat) (a : Account) (p : Port) : (s.raiseRecords n a).port p =
    if a.readableBy n p = true then (s.port p).raise .record else s.port p := by
  unfold State.raiseRecords
  rw [State.raiseRecord_port, State.raiseRecord_port, State.raiseRecord_port]
  cases p <;> simp

theorem Account.readableBy_iff {a : Account} {n : Nat} {p : Port} :
    a.readableBy n p = true ↔ p = ownerOf n ∨ a.rightOf n p ≠ .none := by simp [Account.readableBy]

theorem State.raiseRecords_portsAlone (s : State) (n : Nat) (a : Account) :
    s.raiseRecords n a = { s with ports := (s.raiseRecords n a).ports } := s.raiseRecords_portsOnly n a

theorem Account.pendingBegin_tracks (a : Account) (m : Moment) : a.Tracks (a.pendingBegin m) := by
  unfold Account.pendingBegin
  split
  · exact (Account.closeBegin_tracks _ m _).of_watches rfl
  · exact .plain rfl

/-- Settles O34. -/
theorem recordWrittenStoresTheRecord : Obligations.RecordWrittenStoresTheRecord := by
  intro s n a c ha hw hc
  have hring : c.ring = a.ring.store := by rw [hc]; rfl
  have hstored : { a with ring := a.ring.store } = c := by rw [hc]; rfl
  have hmoment : (s.raiseRecords n a).moment = s.moment := by rw [State.raiseRecords_portsAlone]; rfl
  refine ⟨s.raiseRecords n a, _, (c.pendingBegin s.moment).1, ?_,
    State.setEvaluated_accountBecomes (State.lt_of_account_some ha)
      ((c.pendingBegin_tracks s.moment).of_watches (by rw [hc])), s.raiseRecords_portsAlone n a, fun p hp => ?_,
    fun p howner hright => ?_, fun hnone => ?_, fun k hk => ?_⟩
  · simp [exec, execRecordWritten, ha, hw, hstored]
  · rw [State.raiseRecords_port, if_pos (Account.readableBy_iff.mpr hp)]
    exact PortState.raise_portRaised _ _
  · rw [State.raiseRecords_port, if_neg]
    rw [Account.readableBy_iff]
    exact not_or.mpr ⟨howner, not_not.mpr hright⟩
  · have hpending : c.pendingClose = none := by rw [hc]; exact hnone
    simp [Account.pendingBegin, hpending]
  · have hpending : c.pendingClose = some k := by rw [hc]; exact hk
    have hwriting : c.ring.writing = false := by rw [hring, Ring.store_writing]
    rw [Account.pendingBegin_some hpending]
    exact ⟨Account.closeBegin_closeBegun s _ k,
      Account.closeBegin_pendingClose (a := { c with pendingClose := none }) hwriting s.moment k⟩

/-! #### The release of records -/

theorem HistoryRecord.not_releasedBy (h : HistoryRecord) (q : Count) : (!h.releasedBy q) =
    (h.writing || decide (2147483648 ≤ (q - h.header.sequence).toNat)) := by
  unfold HistoryRecord.releasedBy
  rw [Bool.not_and, Bool.not_not, ← decide_not]
  congr 1
  exact decide_eq_decide.mpr Nat.not_lt

theorem Ring.release_eq (k : Ring) (q : Count) : k.release q = {
    records := k.records.filter fun h => h.writing || decide (2147483648 ≤ (q - h.header.sequence).toNat)
    emptySlot := if k.records.filter (fun h => h.writing || decide (2147483648 ≤ (q - h.header.sequence).toNat)) = []
      then slotAfter k else k.emptySlot } := by
  unfold Ring.release
  simp only [HistoryRecord.not_releasedBy, List.isEmpty_iff, Ring.nextSlot_eq]

/-- Settles O35. -/
theorem releaseRecordsRemovesTheStored : Obligations.ReleaseRecordsRemovesTheStored := by
  intro s p r a kept k h ha howner hkept hk
  have hring : a.ring.release (r.pair 1) = k := by rw [Ring.release_eq, ← hkept, hk]
  have hlength : k.records = kept := by rw [hk]
  have hle : kept.length ≤ a.ring.records.length := by
    rw [hkept]
    exact List.length_filter_le _ _
  have hrelease : a.release s.moment (r.pair 1) = if kept.length < a.ring.records.length then
      Account.deferredBegin { a with ring := k } s.moment else ({ a with ring := k }, []) := by
    rw [Account.release, hring, hlength]
  have htracks : a.Tracks (a.release s.moment (r.pair 1)) := by
    rw [hrelease, Account.deferredBegin]
    split
    · split
      · exact (Account.closeBegin_tracks _ s.moment .deferred).of_watches rfl
      · exact .plain rfl
    · exact .plain rfl
  refine ⟨_, _, next_onAccount h ha howner rfl,
    State.setEvaluated_accountBecomes (State.lt_of_account_some ha) htracks, fun hno => ?_, fun hdue hlt => ?_⟩
  · rw [hrelease]
    obtain hdue | hsame := hno
    · simp [Account.deferredBegin, hdue]
    · rw [if_neg (by omega)]
  · rw [hrelease, if_pos hlt, Account.deferredBegin_due (a := { a with ring := k }) hdue]
    exact Account.closeBegin_closeBegun s _ .deferred

/-! ### SET_TIME and SELECT_BAND (O36) -/

theorem Request.pair_eq (r : Request) (k : Nat) : r.pair k = r.word k ++ r.word (k + 1) := rfl

/-- Settles O36. -/
theorem portUSetsTimeAndBand : Obligations.PortUSetsTimeAndBand := by
  refine fun s p r => ⟨fun h => ⟨fun hp => next_take h (if_neg hp), fun hp => next_take h (if_pos hp)⟩,
    fun h => ⟨fun hp => next_take h (if_pos hp), fun hp hlarge => next_take h ?_, fun hp b hb => next_take h ?_⟩⟩
  · simp [hp, Nat.not_lt.mpr hlarge]
  · have hlow : (r.word 0).extractLsb' 0 3 = b := by
      apply BitVec.eq_of_toNat_eq
      rw [BitVec.extractLsb'_toNat, hb, Nat.shiftRight_zero, Nat.mod_eq_of_lt b.isLt]
    have hlt : (r.word 0).toNat < 8 := hb ▸ b.isLt
    simp [hp, hlt, hlow]

/-! ### SET_WATCH (O38) -/

theorem measureOf_iff {c : Nat} {m : Measure} : measureOf c = some m ↔ measureCode m = c := by
  unfold measureOf
  split <;> [skip; split] <;> cases m <;> simp [measureCode] <;> omega

theorem signallingOf_iff {c : Nat} {g : Signalling} : signallingOf c = some g ↔ signallingCode g = c := by
  unfold signallingOf
  split <;> [skip; split] <;> cases g <;> simp [signallingCode] <;> omega

theorem Account.routeQualified_iff {a : Account} {n i : Nat} {route : PerPort Bool} :
    a.routeQualified n i route = true ↔ ∀ q, route.get q = true → a.qualified n i q = true := by
  have hports : (∀ q, route.get q = true → a.qualified n i q = true) ↔ (route.u = true → a.qualified n i .U = true)
      ∧ (route.f = true → a.qualified n i .F = true) ∧ (route.c = true → a.qualified n i .C = true) :=
    ⟨fun h => ⟨h .U, h .F, h .C⟩, fun ⟨hu, hf, hc⟩ q => by cases q <;> assumption⟩
  rw [hports]
  simp only [Account.routeQualified, Bool.and_eq_true, Bool.or_eq_true, Bool.not_eq_true', and_assoc, imp_iff_not_or,
    Bool.not_eq_true]

/-- The checks of R130 on a SET_WATCH record. -/
def WatchFields.Good (f : WatchFields) (n : Nat) (a : Account) : Prop :=
  f.watch < 4 ∧ f.bin < a.bins.length ∧ f.measure < 2 ∧ f.signalling < 2 ∧ f.low ≤ f.high
    ∧ ∀ q, f.route.get q = true → a.qualified n f.bin q = true

/-- A record that passes the checks gives the watch of its fields, BELOW (R130). -/
theorem WatchFields.watchFor_good {f : WatchFields} {n : Nat} {a : Account} (h : f.Good n a) : ∃ m g,
    measureCode m = f.measure ∧ signallingCode g = f.signalling ∧ f.watchFor n a = some {
      enabled := f.enabled, bin := f.bin, measure := m, high := f.high, low := f.low, signalling := g, route := f.route,
      above := false } := by
  obtain ⟨hwatch, hbin, hmeasure, hsignalling, hlow, hroute⟩ := h
  obtain ⟨m, hm⟩ : ∃ m, measureCode m = f.measure := by
    obtain h0 | h1 : f.measure = 0 ∨ f.measure = 1 := by omega
    · exact ⟨.total, h0.symm⟩
    · exact ⟨.rate, h1.symm⟩
  obtain ⟨g, hg⟩ : ∃ g, signallingCode g = f.signalling := by
    obtain h0 | h1 : f.signalling = 0 ∨ f.signalling = 1 := by omega
    · exact ⟨.edge, h0.symm⟩
    · exact ⟨.level, h1.symm⟩
  refine ⟨m, g, hm, hg, ?_⟩
  simp [WatchFields.watchFor, measureOf_iff.mpr hm, signallingOf_iff.mpr hg, hwatch, hbin, hlow,
    Account.routeQualified_iff.mpr hroute]

theorem WatchFields.good_of_watchFor {f : WatchFields} {n : Nat} {a : Account} {w : Watch} (h : f.watchFor n a = some w) :
    f.Good n a := by
  unfold WatchFields.watchFor at h
  split at h
  · rename_i m g hm hg
    split at h <;> cases h
    rename_i hchecks
    obtain ⟨hwatch, hbin, hlow, hroute⟩ := hchecks
    refine ⟨hwatch, hbin, ?_, ?_, hlow, Account.routeQualified_iff.mp hroute⟩
    · rw [← measureOf_iff.mp hm]
      cases m <;> decide
    · rw [← signallingOf_iff.mp hg]
      cases g <;> decide
  · cases h

/-- Settles O38. -/
theorem setWatchReplacesTheWatch : Obligations.SetWatchReplacesTheWatch := by
  intro s p r a f h ha howner hf good hgood
  change good = f.Good r.account a at hgood
  subst hgood
  refine ⟨fun hbad => next_onAccount h ha howner ?_, fun hgood => ?_⟩
  · have hnone : f.watchFor r.account a = none :=
      Option.eq_none_iff_forall_ne_some.mpr fun w hw => hbad (WatchFields.good_of_watchFor hw)
    simp [← hf, hnone]
  · obtain ⟨m, g, hm, hg, hfor⟩ := WatchFields.watchFor_good hgood
    obtain ⟨hwatch, _⟩ := hgood
    obtain ⟨w, hw⟩ : ∃ w : Watch, w = ⟨f.enabled, f.bin, m, f.high, f.low, g, f.route, false⟩ := ⟨_, rfl⟩
    obtain ⟨b, hb⟩ : ∃ b : Account, b = { a with watches := a.watches.setIfInBounds f.watch w } := ⟨_, rfl⟩
    rw [← hw] at hfor
    obtain ⟨hjoint, htime, hfreeze⟩ := (State.dropPendingAll_portsOnly (s.setAccount r.account (some b))
      fun e => e.isOf r.account f.watch).rest
    refine ⟨_, b, w, next_onAccount h ha howner (x := .done)
      (t := (s.setAccount r.account (some b)).dropPendingAll fun e => e.isOf r.account f.watch) ?_,
      State.respond_slot _ p _ _, ?_, ?_, ?_, ?_, ?_, ?_, ?_, ?_, ?_, ?_, ?_, fun k hk => ?_, fun n hne => ?_,
      fun q e => ?_, hjoint, htime, hfreeze⟩
    · simp only [← hf, hfor, hb]
    · rw [State.respond_account, (State.dropPendingAll_portsOnly _ _).account,
        State.setAccount_account _ _ _ _ (State.lt_of_account_some ha), if_pos rfl]
    · rw [hb]
    · rw [hb]
      exact Vector.getElem?_setIfInBounds_self_of_lt hwatch
    · rw [hw]
    · rw [hw]
    · rw [hw]
    · rw [hw]
    · rw [hw]
    · rw [hw]; exact hm
    · rw [hw]; exact hg
    · rw [hw]
    · rw [hb]
      exact Vector.getElem?_setIfInBounds_ne hk.symm
    · rw [State.respond_account, (State.dropPendingAll_portsOnly _ _).account, State.setAccount_account_ne _ _ _ _ hne]
    · rw [State.respond_pendingSet, State.mem_dropPendingAll, PendingEntry.isOf, ← Bool.not_eq_true, Bool.and_eq_true,
        beq_iff_eq, beq_iff_eq]
      rfl

/-! ### The directory level of the requests (O41) -/

/-- Each request on an account is judged at the directory level before any test of its own (R148). -/
theorem exec_accountRequest {c : Instr} {p : Port} {k : Nat} (hc : c.request = some (p, k)) (hk : 2 ≤ k) (hk' : k ≤ 10)
    (s : State) : ∃ act : Request → Account → Response × State, exec c s = .next (s.take p k fun r =>
      s.onAccount p r.account (if k = 10 then .freeze else .ownership) (act r)) := by
  cases c <;> cases hc <;> first
    | exact ⟨_, rfl⟩
    | (exfalso; omega)

/-- A request that fails the directory level is refused with RIGHTS and its fault written (R148, R151). -/
theorem State.onAccount_refused {s : State} {p : Port} {n : Nat} {need : Need}
    (h : ∀ a, s.account n = some a → a.permits n p need = false) (act : Account → Response × State) :
    s.onAccount p n need act = (.rights, s.writeFault p
      { kind := if s.account n = none then .absentAccount else .rights, request := true, account := some (heldIndex n),
        entry := none }) := by
  cases ha : s.account n with
  | none => simp [State.onAccount, ha]
  | some a => simp [State.onAccount, ha, h a ha]

theorem heldIndex_loByte (w : Word) : heldIndex (loByte w).toNat = loByte w := by
  have : (loByte w).toNat ≤ 255 := Nat.le_of_lt_succ (loByte w).isLt
  rw [heldIndex, Nat.min_eq_left this, BitVec.ofNat_toNat, BitVec.setWidth_eq]

theorem PortState.writeFault_eq (x : PortState) (i : FaultInfo) : x.writeFault i = { x with
    fault := if x.fault.content = none then { x.fault with content := some i } else { x.fault with overflow := true }
    faultSince := true } := by
  unfold PortState.writeFault
  cases x.fault.content <;> rfl

/-- Settles O41. -/
theorem accountRequestsNeedOwnership : Obligations.AccountRequestsNeedOwnership := by
  intro s c p k r i hc h hrefused hi
  have hrange : 2 ≤ k ∧ k ≤ 10 := by
    obtain ⟨h2, h9, _⟩ | ⟨rfl, _⟩ := hrefused
    · exact ⟨h2, by omega⟩
    · exact ⟨by omega, le_rfl⟩
  obtain ⟨act, hexec⟩ := exec_accountRequest hc hrange.1 hrange.2 s
  have hdenied : ∀ a, s.account r.account = some a →
      a.permits r.account p (if k = 10 then .freeze else .ownership) = false := by
    intro a ha
    obtain ⟨_, h9, hnone | howner⟩ | ⟨rfl, hnone | ⟨howner, hright⟩⟩ := hrefused
    · cases hnone.symm.trans ha
    · rw [if_neg (by omega)]
      simpa [Account.permits] using howner.symm
    · cases hnone.symm.trans ha
    · simpa [Account.permits, howner.symm] using hright a ha
  have hfault : s.writeFault p i = s.setPort p ((s.port p).writeFault i) := rfl
  rw [hexec, next_take h (State.onAccount_refused hdenied _), ← PortState.writeFault_eq, ← hfault, hi, Request.account,
    heldIndex_loByte]

/-! ### Watches (O37) -/

theorem recordCrossing_new {n k : Nat} {c : Crossing} {es : List PendingEntry}
    (h : ∀ e ∈ es, ¬(e.account = n ∧ e.watch = k)) : PendingEntry.new n k c ∈ recordCrossing n k c es := by
  induction es with
  | nil => exact List.mem_singleton_self _
  | cons e es ih =>
    obtain ⟨he, hes⟩ := List.forall_mem_cons.mp h
    have hne : e.isOf n k = false := by simpa [PendingEntry.isOf] using he
    unfold recordCrossing
    rw [if_neg (by simp [hne])]
    split
    · exact List.mem_cons_self
    · exact List.mem_cons_of_mem _ (ih hes)

/-- In a set in its order an entry that stands takes the crossing (R136). -/
theorem recordCrossing_record {n k : Nat} {c : Crossing} {es : List PendingEntry}
    (hs : es.Pairwise fun x y => x.key < y.key) {e : PendingEntry} (he : e ∈ es) (haccount : e.account = n)
    (hwatch : e.watch = k) : e.record c ∈ recordCrossing n k c es := by
  have hkey : n * 4 + k = e.key := by rw [PendingEntry.key, haccount, hwatch]
  induction es with
  | nil => cases he
  | cons x xs ih =>
    obtain ⟨hx, hxs⟩ := List.pairwise_cons.mp hs
    unfold recordCrossing
    obtain rfl | he := List.mem_cons.mp he
    · rw [if_pos (by simp [PendingEntry.isOf, haccount, hwatch])]
      exact List.mem_cons_self
    · have hlt := hx e he
      have hother : x.isOf n k = false := by
        rw [← Bool.not_eq_true]
        intro hof
        have : x.account = n ∧ x.watch = k := by simpa [PendingEntry.isOf] using hof
        obtain ⟨ha, hw⟩ := this
        rw [PendingEntry.key, ha, hw, hkey] at hlt
        exact absurd hlt (lt_irrefl _)
      rw [if_neg (by simp [hother]), if_neg (by omega)]
      exact List.mem_cons_of_mem _ (ih hxs he)

theorem Account.measureOf_enabled {a : Account} {k : Option Booked} {w : Watch} {m : Nat} (h : a.measureOf k w = some m) :
    w.enabled = true := by
  by_contra hne
  rw [Account.measureOf_disabled (Bool.not_eq_true _ ▸ hne)] at h
  cases h

/-- Settles O37. -/
theorem watchEvaluationFollowsTheTable : Obligations.WatchEvaluationFollowsTheTable := by
  refine ⟨fun w m => ⟨fun ha hm => ?_, fun ha hm => ?_, fun ha hm => ?_, fun ha hm => ?_⟩,
    fun a k i w hw => ⟨fun hnone => ⟨Account.evaluate_watch_none hw hnone, fun x hx hi => ?_⟩, fun m hm =>
      ⟨Account.measureOf_enabled hm, ?_, fun c => ?_⟩⟩, fun a k x hx => Account.mem_evaluate.mp hx,
    fun s t n a x ht p hlaw => ?_, fun s n a => rfl⟩
  · rw [Watch.crossing_below ha, if_pos hm]
    exact ⟨rfl, rfl⟩
  · rw [Watch.crossing_below ha, if_neg (Nat.not_le.mpr hm)]
    exact ⟨rfl, rfl⟩
  · rw [Watch.crossing_above ha, if_pos hm]
    exact ⟨rfl, rfl⟩
  · rw [Watch.crossing_above ha, if_neg (Nat.not_le.mpr hm)]
    exact ⟨rfl, rfl⟩
  · obtain ⟨v, m, hv, hm, _⟩ := Account.mem_evaluate.mp hx
    rw [hi] at hv
    cases hw.symm.trans hv
    cases hnone.symm.trans hm
  · rw [Account.evaluate_watch_some hw hm, Watch.cross_crossing]
  · rw [Account.mem_evaluate]
    refine ⟨fun hcross => ⟨w, m, hw, hm, hcross, rfl⟩, fun ⟨v, m', hv, hm', hcross, _⟩ => ?_⟩
    cases hw.symm.trans hv
    cases hm.symm.trans hm'
    exact hcross
  · have hport : t.port p = (s.port p).enroll p n x := by
      rw [ht]
      exact State.route_port _ n [x] p
    have hset := PortState.enroll_pendingSet p n (s.port p) x
    refine ⟨fun hroute => ?_, fun hroute => ?_⟩
    · rw [hport, PortState.enroll, if_neg (by simp [hroute])]
    · rw [if_pos hroute] at hset
      rw [hport, hset]
      refine ⟨recordCrossing_new, fun e he haccount hwatch => ⟨e.record x.kind, recordCrossing_record ?_ he haccount hwatch,
        haccount, hwatch, rfl, rfl, rfl⟩, fun e he => mem_recordCrossing_other he⟩
      exact ((s.port p).law_iff.mp hlaw).sorted

end Sys2Proof.Machine

/-! The freeze unit and the second ticks (chapters 6 and 9): grants, passing, reclaims, and what a second tick counts. -/

namespace Sys2Proof.Machine

/-! ### Raised indications -/

theorem State.raise_port (s : State) (p q : Port) (e : Event) :
    (s.raise p e).port q = if q = p then (s.port p).raise e else s.port q := by rw [State.raise, State.updPort_port]

theorem Event.bit_inj {e f : Event} : e.bit = f.bit ↔ e = f := by cases e <;> cases f <;> decide

theorem State.raise_edgeSet (s : State) (p q : Port) (e f : Event) :
    (s.raise p e).edgeSet q f ↔ (q = p ∧ f = e) ∨ s.edgeSet q f := by
  obtain ⟨_, hk⟩ := (s.port p).raise_portRaised e
  obtain ⟨hedges, _⟩ := hk f.bit
  rw [State.edgeSet, State.edgeSet, State.raise_port]
  by_cases hq : q = p
  · rw [if_pos hq, hedges, hq, Bool.or_eq_true, decide_eq_true_eq, Event.bit_inj]
    tauto
  · simp [hq]

theorem State.raise_eq_setPort (s : State) (p : Port) (e : Event) :
    s.raise p e = s.setPort p ((s.raise p e).port p) := by rw [State.raise_port, if_pos rfl]; rfl

/-! ### Grants and passing (R157 to R162) -/

theorem State.copyOf_copyNow (s : State) (n : Nat) : CopyNow s n (s.copyOf n) := by
  refine ⟨rfl, rfl, fun hnone => ?_, fun a ha => ?_⟩
  · rw [State.copyOf, hnone]; rfl
  · rw [State.copyOf, ha]; rfl

/-- What a grant puts into a buffer (R158, R162). -/
def State.granted (s : State) (p : Port) (n : Nat) : Buffer :=
  { timer := s.slotLength, held := some { holder := p, copy := s.copyOf n, reclaimDue := false } }

theorem State.grant_freeze (s : State) (b : Fin 2) (p : Port) (n : Nat) :
    (s.grant b p n).freeze = s.freeze.setBuffer b (s.granted p n) := rfl

theorem State.grant_port (s : State) (b : Fin 2) (p q : Port) (n : Nat) : (s.grant b p n).port q =
    if q = p then (s.port p).raise .freezeGranted else s.port q := State.raise_port _ p q _

theorem State.grant_edgeSet (s : State) (b : Fin 2) (p q : Port) (n : Nat) (f : Event) :
    (s.grant b p n).edgeSet q f ↔ (q = p ∧ f = .freezeGranted) ∨ s.edgeSet q f := State.raise_edgeSet _ p q _ f

theorem State.grant_granted (s : State) (b : Fin 2) (p : Port) (n : Nat) : Granted s (s.grant b p n) b p n := by
  refine ⟨⟨s.copyOf n, s.copyOf_copyNow n, ?_⟩, (State.grant_edgeSet s b p p n _).mpr (.inl ⟨rfl, rfl⟩)⟩
  rw [State.grant_freeze, FreezeUnit.setBuffer_buffer, if_pos rfl]
  rfl

theorem Buffer.reload_eq (s : State) (x : Buffer) : x.reload s.slotLength = reloaded s x := by
  unfold Buffer.reload reloaded
  cases x.held <;> rfl

/-- The freeze unit after the reload that an emptied waiting list makes (R162). -/
theorem State.reloadIfEmpty_freeze (s : State) : s.reloadIfEmpty.freeze = if s.freeze.waiting = [] then
    { buffer0 := reloaded s s.freeze.buffer0, buffer1 := reloaded s s.freeze.buffer1, waiting := [] } else s.freeze := by
  unfold State.reloadIfEmpty
  by_cases hw : s.freeze.waiting = []
  · simp [State.reload, State.setFreeze, Buffer.reload_eq, hw]
  · rw [if_neg (by simpa using hw), if_neg hw]

theorem State.reloadIfEmpty_buffer (s : State) (c : Fin 2) : s.reloadIfEmpty.freeze.buffer c =
    if s.freeze.waiting = [] then reloaded s (s.freeze.buffer c) else s.freeze.buffer c := by
  rw [State.reloadIfEmpty_freeze]
  split
  · match c with
    | 0 => rfl
    | 1 => rfl
  · rfl

theorem State.reloadIfEmpty_waiting (s : State) : s.reloadIfEmpty.freeze.waiting = s.freeze.waiting := by
  rw [State.reloadIfEmpty_freeze]
  split
  · simp [*]
  · rfl

theorem State.reloadIfEmpty_eq (s : State) : s.reloadIfEmpty = s.setFreeze s.reloadIfEmpty.freeze := by
  unfold State.reloadIfEmpty
  split <;> rfl

theorem State.reloadIfEmpty_port (s : State) (p : Port) : s.reloadIfEmpty.port p = s.port p := by
  rw [State.reloadIfEmpty_eq]
  rfl

/-- Buffer `b` passed to the waiter `w`, before the reload (R161). -/
def State.passTo (s : State) (b : Fin 2) (w : Waiter) (rest : List Waiter) : State :=
  (s.setFreeze { s.freeze with waiting := rest }).grant b w.port w.account

theorem State.freeBuffer_nil {s : State} (h : s.freeze.waiting = []) (b : Fin 2) :
    s.freeBuffer b = s.setFreeze (s.freeze.setBuffer b { s.freeze.buffer b with held := none }) := by
  simp [State.freeBuffer, h]

theorem State.freeBuffer_cons {s : State} {w : Waiter} {rest : List Waiter} (h : s.freeze.waiting = w :: rest)
    (b : Fin 2) : s.freeBuffer b = (s.passTo b w rest).reloadIfEmpty := by simp [State.freeBuffer, h, State.passTo]

theorem State.passTo_buffer (s : State) (b c : Fin 2) (w : Waiter) (rest : List Waiter) :
    (s.passTo b w rest).freeze.buffer c = if c = b then s.granted w.port w.account else s.freeze.buffer c := by
  rw [State.passTo, State.grant_freeze, FreezeUnit.setBuffer_buffer]
  rfl

theorem State.passTo_waiting (s : State) (b : Fin 2) (w : Waiter) (rest : List Waiter) :
    (s.passTo b w rest).freeze.waiting = rest := by
  rw [State.passTo, State.grant_freeze, FreezeUnit.setBuffer_waiting]
  rfl

theorem State.passTo_port (s : State) (b : Fin 2) (w : Waiter) (rest : List Waiter) (q : Port) :
    (s.passTo b w rest).port q = if q = w.port then (s.port w.port).raise .freezeGranted else s.port q :=
  State.grant_port _ b w.port q w.account

/-- A buffer given up with a port waiting passes to the head of the list (R161, R162). -/
theorem State.freeBuffer_passedOn {s : State} {w : Waiter} {rest : List Waiter} (h : s.freeze.waiting = w :: rest)
    (b : Fin 2) : PassedOn s (s.freeBuffer b) b w rest := by
  have hport (q : Port) : (s.freeBuffer b).port q =
      if q = w.port then (s.port w.port).raise .freezeGranted else s.port q := by
    rw [State.freeBuffer_cons h, State.reloadIfEmpty_port, State.passTo_port]
  have hbuffer (c : Fin 2) : (s.freeBuffer b).freeze.buffer c = if rest = [] then
      reloaded s ((s.passTo b w rest).freeze.buffer c) else (s.passTo b w rest).freeze.buffer c := by
    rw [State.freeBuffer_cons h, State.reloadIfEmpty_buffer, State.passTo_waiting]
    rfl
  refine ⟨⟨⟨s.copyOf w.account, s.copyOf_copyNow _, ?_⟩, ?_⟩, ?_, fun c hc => ?_, ?_, fun p hp => ?_, ?_⟩
  · rw [hbuffer, State.passTo_buffer, if_pos rfl]
    split <;> rfl
  · rw [State.edgeSet, hport, if_pos rfl]
    exact PortState.raise_edgeSet _ _
  · rw [State.freeBuffer_cons h, State.reloadIfEmpty_waiting, State.passTo_waiting]
  · rw [hbuffer, State.passTo_buffer, if_neg hc]
  · rw [hport, if_pos rfl]
    exact PortState.raise_portRaised _ _
  · rw [hport, if_neg hp]
  · rw [State.freeBuffer_cons h, State.reloadIfEmpty_eq]
    rfl

/-! ### Reclaims (R164, R165) -/

theorem State.reclaim_reclaimed {s : State} {w : Waiter} {rest : List Waiter} (h : s.freeze.waiting = w :: rest)
    (b : Fin 2) (p : Port) : Reclaimed s (s.reclaim b p) b p w rest := by
  refine ⟨s.raise p .reclaimed, s.raise_eq_setPort p _, ?_,
    State.freeBuffer_passedOn (s := s.raise p .reclaimed) h b⟩
  rw [State.raise_port, if_pos rfl]
  exact PortState.raise_portRaised _ _

theorem State.expired_iff (s : State) (b : Fin 2) (h : Holding) : s.expired b = some h ↔ SlotExpired s b h := by
  unfold State.expired SlotExpired
  cases hheld : (s.freeze.buffer b).held with
  | none => simp
  | some k =>
    simp only [Option.ite_none_right_eq_some, Option.some_inj, List.isEmpty_eq_false_iff]
    constructor
    · rintro ⟨⟨ht, hd, hw⟩, rfl⟩
      exact ⟨rfl, ht, hd, hw⟩
    · rintro ⟨rfl, ht, hd, hw⟩
      exact ⟨⟨ht, hd, hw⟩, rfl⟩

theorem State.expireSlot_settled (s : State) (b : Fin 2) : SlotSettled s (s.expireSlot b) b := by
  refine ⟨fun hnone => ?_, fun h hexpired => ⟨fun hopen => ?_, fun hclosed w rest hw => ?_⟩⟩
  · have : s.expired b = none := Option.eq_none_iff_forall_ne_some.mpr fun h hh => hnone h ((s.expired_iff b h).mp hh)
    simp [State.expireSlot, this]
  · have htimer := hexpired.2.1
    simp [State.expireSlot, (s.expired_iff b h).mpr hexpired, hopen, htimer]
  · have : s.expireSlot b = s.reclaim b h.holder := by
      simp [State.expireSlot, (s.expired_iff b h).mpr hexpired, hclosed]
    rw [this]
    exact State.reclaim_reclaimed hw b h.holder

/-! ### States alike for the freeze unit -/

/-- `y` agrees with `x` in all that the freeze unit reads, and in the indications that it raises. -/
structure FreezeAlike (x y : State) : Prop where
  freeze : y.freeze = x.freeze
  second : y.time.second = x.time.second
  bodies : ∀ n, (y.copyOf n).body = (x.copyOf n).body
  draws : y.freeDraws = x.freeDraws
  slotLength : y.slotLength = x.slotLength
  reading : ∀ p, y.freezeReadOpen p = x.freezeReadOpen p
  edges : ∀ p e, e = Event.reclaimed ∨ e = Event.freezeGranted → (y.edgeSet p e ↔ x.edgeSet p e)

theorem State.raise_freezeReadOpen (s : State) (p q : Port) (e : Event) :
    (s.raise p e).freezeReadOpen q = s.freezeReadOpen q := by
  unfold State.freezeReadOpen
  rw [State.raise_port]
  split
  · rename_i hq
    rw [hq]
    rfl
  · rfl

theorem FreezeAlike.raise {x y : State} (h : FreezeAlike x y) (p : Port) (e : Event) :
    FreezeAlike (x.raise p e) (y.raise p e) := by
  refine ⟨h.freeze, h.second, h.bodies, h.draws, h.slotLength, fun q => ?_, fun q f hf => ?_⟩
  · rw [State.raise_freezeReadOpen, State.raise_freezeReadOpen, h.reading]
  · rw [State.raise_edgeSet, State.raise_edgeSet, h.edges q f hf]

theorem FreezeAlike.setFreeze {x y : State} (h : FreezeAlike x y) (u : FreezeUnit) :
    FreezeAlike (x.setFreeze u) (y.setFreeze u) :=
  ⟨rfl, h.second, h.bodies, h.draws, h.slotLength, h.reading, h.edges⟩

theorem FreezeAlike.copyOf {x y : State} (h : FreezeAlike x y) (n : Nat) : y.copyOf n = x.copyOf n := by
  have hbody := h.bodies n
  unfold State.copyOf at hbody ⊢
  rw [h.second, h.draws]
  exact congrArg (fun k => ({ account := n, second := x.time.second, body := k, draw := x.freeDraws } : Copy)) hbody

theorem FreezeAlike.drawn {x y : State} (h : FreezeAlike x y) : FreezeAlike x.drawn y.drawn :=
  ⟨h.freeze, h.second, h.bodies, congrArg (· + 1) h.draws, h.slotLength, h.reading, h.edges⟩

theorem FreezeAlike.grant {x y : State} (h : FreezeAlike x y) (b : Fin 2) (p : Port) (n : Nat) :
    FreezeAlike (x.grant b p n) (y.grant b p n) := by
  unfold State.grant
  rw [h.freeze, h.slotLength, h.copyOf]
  exact (h.drawn.setFreeze _).raise p _

theorem FreezeAlike.reloadIfEmpty {x y : State} (h : FreezeAlike x y) : FreezeAlike x.reloadIfEmpty y.reloadIfEmpty := by
  unfold State.reloadIfEmpty State.reload
  rw [h.freeze, h.slotLength]
  split
  · exact h.setFreeze _
  · exact h

theorem FreezeAlike.freeBuffer {x y : State} (h : FreezeAlike x y) (b : Fin 2) :
    FreezeAlike (x.freeBuffer b) (y.freeBuffer b) := by
  unfold State.freeBuffer
  rw [h.freeze]
  split
  · exact h.setFreeze _
  · exact ((h.setFreeze _).grant b _ _).reloadIfEmpty

theorem FreezeAlike.expireSlot {x y : State} (h : FreezeAlike x y) (b : Fin 2) :
    FreezeAlike (x.expireSlot b) (y.expireSlot b) := by
  have hexpired : y.expired b = x.expired b := by
    unfold State.expired
    rw [h.freeze]
  unfold State.expireSlot State.reclaim
  rw [hexpired]
  split
  · rw [h.reading, h.freeze]
    split
    · exact h.setFreeze _
    · exact (h.raise _ _).freeBuffer b
  · exact h

/-! ### The freeze unit clears no indication -/

/-- Each edge indication that stands in `s` stands in `t`. -/
def KeepsEdges (s t : State) : Prop := ∀ p e, s.edgeSet p e → t.edgeSet p e

theorem KeepsEdges.trans {s t u : State} (h : KeepsEdges s t) (k : KeepsEdges t u) : KeepsEdges s u :=
  fun p e hs => k p e (h p e hs)

theorem State.raise_keepsEdges (s : State) (p : Port) (e : Event) : KeepsEdges s (s.raise p e) :=
  fun q f hs => (State.raise_edgeSet s p q e f).mpr (.inr hs)

theorem State.reloadIfEmpty_keepsEdges (s : State) : KeepsEdges s s.reloadIfEmpty := by
  intro p e hs
  rw [State.edgeSet, State.reloadIfEmpty_port]
  exact hs

theorem State.freeBuffer_keepsEdges (s : State) (b : Fin 2) : KeepsEdges s (s.freeBuffer b) := by
  cases hw : s.freeze.waiting with
  | nil =>
    rw [State.freeBuffer_nil hw]
    exact fun _ _ => id
  | cons w rest =>
    rw [State.freeBuffer_cons hw]
    refine KeepsEdges.trans (fun p e hs => ?_) (State.reloadIfEmpty_keepsEdges _)
    exact (State.grant_edgeSet _ b w.port p w.account e).mpr (.inr hs)

theorem State.expireSlot_keepsEdges (s : State) (b : Fin 2) : KeepsEdges s (s.expireSlot b) := by
  unfold State.expireSlot
  split
  · split
    · exact fun _ _ => id
    · exact (s.raise_keepsEdges _ _).trans (State.freeBuffer_keepsEdges _ b)
  · exact fun _ _ => id

/-! ### Second ticks (R71, R72, R107, R108, R113, R163 to R165) -/

theorem Buffer.counted_eq (x : Buffer) : x.counted = slotCounted x := by
  unfold Buffer.counted slotCounted
  cases x.held <;> rfl

/-- The freeze unit with its eligible timers one lower (R163). -/
def FreezeUnit.counted (u : FreezeUnit) : FreezeUnit :=
  { u with buffer0 := slotCounted u.buffer0, buffer1 := slotCounted u.buffer1 }

theorem State.countSlots_waiting {s : State} (h : s.freeze.waiting ≠ []) :
    s.countSlots = ((s.setFreeze s.freeze.counted).expireSlot 0).expireSlot 1 := by
  rw [State.countSlots, if_neg (by simpa using h), Buffer.counted_eq, Buffer.counted_eq]
  rfl

theorem State.countSlots_idle {s : State} (h : s.freeze.waiting = []) : s.countSlots = s := by
  simp [State.countSlots, h]

theorem State.countSlots_keepsEdges (s : State) : KeepsEdges s s.countSlots := by
  by_cases hw : s.freeze.waiting = []
  · rw [State.countSlots_idle hw]
    exact fun _ _ => id
  · rw [State.countSlots_waiting hw]
    exact (State.expireSlot_keepsEdges (s.setFreeze s.freeze.counted) 0).trans (State.expireSlot_keepsEdges _ 1)

theorem State.countLapse_none {s : State} (h : s.joint.proposal = none) : s.countLapse = s := by
  simp [State.countLapse, h]

theorem State.countLapse_counts {s : State} {q : Proposal} (h : s.joint.proposal = some q) (hr : 1 < q.remaining) :
    s.countLapse = s.setJoint { s.joint with proposal := some { q with remaining := q.remaining - 1 } } := by
  simp [State.countLapse, h, Nat.not_le.mpr hr]

theorem State.countLapse_lapses {s : State} {q : Proposal} (h : s.joint.proposal = some q) (hr : q.remaining ≤ 1) :
    s.countLapse = s.lapseNow := by simp [State.countLapse, h, hr]

theorem State.lapseNow_edgeSet (s : State) (p : Port) (e : Event) :
    s.lapseNow.edgeSet p e ↔ ((p = .U ∨ p = .F) ∧ e = .lapsed) ∨ s.edgeSet p e := by
  unfold State.lapseNow
  rw [State.raise_edgeSet, State.raise_edgeSet]
  have : s.endProposal.edgeSet p e ↔ s.edgeSet p e := Iff.rfl
  tauto

/-- The lapse timer's count is nothing to the freeze unit. -/
theorem State.countLapse_freezeAlike (s : State) : FreezeAlike s s.countLapse := by
  unfold State.countLapse
  split
  · split
    · refine ⟨rfl, rfl, fun _ => rfl, rfl, rfl, fun p => ?_, fun p e he => ?_⟩
      · unfold State.lapseNow
        rw [State.raise_freezeReadOpen, State.raise_freezeReadOpen]
        rfl
      · rw [State.lapseNow_edgeSet]
        refine or_iff_right ?_
        rintro ⟨_, rfl⟩
        obtain he | he := he <;> cases he
    · exact ⟨rfl, rfl, fun _ => rfl, rfl, rfl, fun _ => rfl, fun _ _ _ => Iff.rfl⟩
  · exact ⟨rfl, rfl, fun _ => rfl, rfl, rfl, fun _ => rfl, fun _ _ _ => Iff.rfl⟩

theorem Account.markTimer_body (second : Count) (a : Account) : (a.markTimer second).suspended = a.suspended
    ∧ (a.markTimer second).header = a.header ∧ (a.markTimer second).bins = a.bins := by
  unfold Account.markTimer
  split <;> exact ⟨rfl, rfl, rfl⟩

theorem State.secondTick_time (s : State) : s.secondTick.time = s.time.advance := by
  have hslots := (s.setTime s.time.advance).countLapse.countSlots_leaves
  change ((s.setTime s.time.advance).countLapse.countSlots).time = _
  rw [hslots.time rfl, State.countLapse_time]
  rfl

theorem State.secondTick_account (s : State) (n : Nat) :
    s.secondTick.account n = (s.account n).map (Account.markTimer (s.time.second + 1)) := by
  unfold State.account
  rw [State.secondTick_accounts, mapVec_getElem?]
  cases s.accounts[n]? with
  | none => rfl
  | some a => cases a <;> rfl

/-- The state at a second tick: the time base and the headers as the source of the tick leaves them (R106, R107, R109). -/
def State.clocked (s : State) (t : TimeBase) (accounts : Vector (Option Account) 24) : State :=
  { s with time := t, accounts := accounts }

/-- The state in which the slot timers have counted at a second tick (R163). -/
def State.slotsCounted (s : State) (t : TimeBase) (accounts : Vector (Option Account) 24) : State :=
  (s.clocked t accounts).setFreeze s.freeze.counted

/-- The slot timers of a second tick are settled as in the state after it, for the lapse of the same tick is nothing to the
freeze unit (R71, R163). -/
theorem State.secondTick_freezeAlike {s : State} (h : s.freeze.waiting ≠ []) :
    FreezeAlike (((s.slotsCounted s.secondTick.time s.secondTick.accounts).expireSlot 0).expireSlot 1)
      (s.setTime s.time.advance).countLapse.countSlots := by
  have hlapse := (s.setTime s.time.advance).countLapse_freezeAlike
  have hfreeze : (s.setTime s.time.advance).countLapse.freeze = s.freeze := hlapse.freeze
  have hbase : FreezeAlike (s.clocked s.secondTick.time s.secondTick.accounts) (s.setTime s.time.advance).countLapse := by
    refine ⟨hfreeze, ?_, fun n => ?_, hlapse.draws, hlapse.slotLength, hlapse.reading, hlapse.edges⟩
    · rw [hlapse.second, State.clocked, State.secondTick_time]
      rfl
    · have hcopy (u : State) : (u.copyOf n).body =
          (u.account n).map fun a => { suspended := a.suspended, header := a.header, bins := a.bins } := rfl
      have haccount : (s.clocked s.secondTick.time s.secondTick.accounts).account n = s.secondTick.account n := rfl
      rw [hlapse.bodies, hcopy, hcopy, haccount, State.secondTick_account, Option.map_map]
      refine Option.map_congr fun a _ => ?_
      obtain ⟨hs, hh, hb⟩ := a.markTimer_body (s.time.second + 1)
      rw [Function.comp_apply, hs, hh, hb]
  rw [State.countSlots_waiting (by rw [hfreeze]; exact h), hfreeze]
  exact ((hbase.setFreeze _).expireSlot 0).expireSlot 1

/-- A second tick, whatever its source: `f` is what the source makes of an open account's header (R108). -/
theorem State.secondTick_secondTicked {s : State} {t : TimeBase} {accounts : Vector (Option Account) 24}
    {f : Account → Account} (ht : t.second = s.time.second)
    (ha : ∀ n, (s.clocked t accounts).account n = (s.account n).map f) (hf : ∀ a, (f a).period = a.period) :
    SecondTicked f s (s.clocked t accounts).secondTick := by
  have htime := (s.clocked t accounts).secondTick_time
  have hjoint := (s.clocked t accounts).secondTick_joint
  have hleaves := (s.clocked t accounts).secondTick_leaves 
    (f := { time := true, accounts := true, joint := true, freeze := true }) rfl rfl rfl rfl
  have hedges : KeepsEdges ((s.clocked t accounts).setTime t.advance).countLapse (s.clocked t accounts).secondTick :=
    ((s.clocked t accounts).setTime t.advance).countLapse.countSlots_keepsEdges
  refine ⟨?_, ?_, fun n => ?_, fun hq => ?_, fun q hq hr => ?_, fun q hq hr => ⟨?_, ?_, ?_⟩, fun hw => ?_, fun hw => ?_,
    hleaves.receivers rfl, hleaves.assemblers rfl, hleaves.calculator rfl, hleaves.posting rfl⟩
  · rw [htime, ← ht]
    rfl
  · rw [htime]
    rfl
  · rw [State.secondTick_account, ha, Option.map_map]
    refine Option.map_congr fun a _ => ?_
    rw [Function.comp_apply, Account.markTimer, ← hf a, ← ht]
    rfl
  · rw [hjoint, State.countLapse_none (s := s.clocked t accounts) hq]
    rfl
  · rw [hjoint, State.countLapse_counts (s := s.clocked t accounts) hq hr]
    rfl
  · rw [hjoint, State.countLapse_lapses (s := s.clocked t accounts) hq hr.le]
    rfl
  · refine hedges .U .lapsed ?_
    rw [State.countLapse_lapses (s := (s.clocked t accounts).setTime t.advance) hq hr.le, State.lapseNow_edgeSet]
    exact .inl ⟨.inl rfl, rfl⟩
  · refine hedges .F .lapsed ?_
    rw [State.countLapse_lapses (s := (s.clocked t accounts).setTime t.advance) hq hr.le, State.lapseNow_edgeSet]
    exact .inl ⟨.inr rfl, rfl⟩
  · change (((s.clocked t accounts).setTime t.advance).countLapse.countSlots).freeze = s.freeze
    have hfreeze := ((s.clocked t accounts).setTime t.advance).countLapse_freezeAlike.freeze
    rw [State.countSlots_idle (by rw [hfreeze]; exact hw), hfreeze]
    rfl
  · have halike := State.secondTick_freezeAlike (s := s.clocked t accounts) hw
    exact ⟨_, _, State.expireSlot_settled _ 0, State.expireSlot_settled _ 1, halike.freeze, halike.edges⟩

/-! #### The sources of second ticks -/

theorem State.setTime_clocked (s : State) (t : TimeBase) : s.setTime t = s.clocked t s.accounts := rfl

theorem State.clocked_account (s : State) (t : TimeBase) (n : Nat) :
    (s.clocked t s.accounts).account n = (s.account n).map fun a => a := by
  rw [Option.map_id']
  rfl

/-- The class of a pulse by its distance from the reference pulse tick (R106). -/
theorem TimeBase.classify_some {t : TimeBase} {m : Nat} (h : t.reference = some m) (now : Nat) : t.classify now =
    if now < m + 9999000 then .early else if now ≤ m + 10001000 then .accepted else .reference := by
  unfold TimeBase.classify
  rw [h]
  rfl

/-- Settles O30. -/
theorem secondPulseIsClassed : Obligations.SecondPulseIsClassed := by
  intro s
  refine ⟨fun hnone => ?_, fun m hm => ⟨fun hearly => ?_, fun hlate => ?_, fun hlow hhigh => ?_⟩⟩
  · simp only [exec, execSecondPulse, TimeBase.classify, hnone]
    rfl
  · simp only [exec, execSecondPulse, TimeBase.classify_some hm, if_pos hearly]
  · simp only [exec, execSecondPulse, TimeBase.classify_some hm, if_neg (show ¬s.now < m + 9999000 by omega),
      if_neg (Nat.not_le.mpr hlate)]
    rfl
  · have haccepted : s.time.classify s.now = .accepted := by
      rw [TimeBase.classify_some hm, if_neg (Nat.not_lt.mpr hlow), if_pos hhigh]
    have hexec : exec .secondPulse s = if s.time.state = .tracking ∨ min 2 (s.time.streak + 1) = 2 then
        .next (s.setTime { s.time.accept s.now with state := .tracking }).secondTick
        else .next (s.setTime (s.time.accept s.now)) := by
      simp only [exec, execSecondPulse, haccepted]
      rfl
    refine ⟨fun ⟨hstate, hstreak⟩ => ?_, fun htick => ⟨_, ?_, ?_, State.secondTick_secondTicked
      (t := { s.time.accept s.now with state := .tracking }) rfl (s.clocked_account _) fun _ => rfl⟩⟩
    · rw [hexec, if_neg (by simp [hstate, hstreak]), TimeBase.accept, hstreak]
      rfl
    · rw [hexec, if_pos (htick.imp_right fun h => by omega)]
      rfl
    · rw [State.secondTick_time]
      rfl

/-- Settles O31. -/
theorem holdoverAndFreeRunMakeSecondTicks : Obligations.HoldoverAndFreeRunMakeSecondTicks := by
  refine ⟨fun s m hstate hlast hlimit => ?_, fun s hstate hfull => ?_⟩
  · have hdue : s.holdoverDue = true := by
      have : decide (m + Config.holdoverTicks ≤ s.now) = true := decide_eq_true hlimit
      simp [State.holdoverDue, hstate, hlast, this]
    refine ⟨_, (if_pos hdue : exec .holdoverEntry s = _), ?_, ?_, ?_, ?_, State.secondTick_secondTicked rfl
      (fun n => State.mapAccounts_account s _ n) fun _ => rfl⟩
    all_goals rw [State.secondTick_time]; rfl
  · have hdue : s.freeRunDue = true := by
      rw [State.freeRunDue, Bool.and_eq_true, decide_eq_true_eq, bne_iff_ne]
      exact ⟨hstate, hfull⟩
    refine ⟨_, (if_pos hdue : exec .freeRunTick s = _), ?_, ?_⟩
    · rw [State.secondTick_time]
      rfl
    · exact State.secondTick_secondTicked (s := s) (t := s.time) rfl (s.clocked_account _) fun _ => rfl

/-! ### FREEZE and UNFREEZE (O43, O44) -/

theorem State.respond_port_ne (s : State) {p q : Port} (h : q ≠ p) (code : Byte) (x : Response) :
    (s.respond p code x).port q = s.port q := by rw [State.respond, State.updPort_port, if_neg h]

theorem State.respond_edgeSet (s : State) (p q : Port) (code : Byte) (x : Response) (e : Event) :
    (s.respond p code x).edgeSet q e ↔ s.edgeSet q e := by
  rw [State.edgeSet, State.respond, State.updPort_port]
  split
  · rename_i hq
    rw [hq]
    rfl
  · rfl

theorem FreezeUnit.isWaiting_iff_exists (u : FreezeUnit) (p : Port) :
    u.isWaiting p = true ↔ ∃ w ∈ u.waiting, w.port = p := by simp [FreezeUnit.isWaiting]

theorem FreezeUnit.lowestFree_def (u : FreezeUnit) : u.lowestFree = if (u.buffer 0).held.isNone then some 0
    else if (u.buffer 1).held.isNone then some 1 else none := rfl

theorem FreezeUnit.lowestFree_eq {u : FreezeUnit} {b : Fin 2} (hfree : (u.buffer b).held = none)
    (hlow : b = 1 → (u.buffer 0).held.isSome = true) : u.lowestFree = some b := by
  rw [FreezeUnit.lowestFree_def]
  match b with
  | 0 => rw [if_pos (Option.isNone_iff_eq_none.mpr hfree)]
  | 1 =>
    rw [Option.isNone_eq_false_iff.mpr (hlow rfl), if_neg Bool.false_ne_true,
      if_pos (Option.isNone_iff_eq_none.mpr hfree)]

theorem FreezeUnit.lowestFree_full {u : FreezeUnit} (h0 : (u.buffer 0).held.isSome = true)
    (h1 : (u.buffer 1).held.isSome = true) : u.lowestFree = none := by
  rw [FreezeUnit.lowestFree_def, Option.isNone_eq_false_iff.mpr h0, Option.isNone_eq_false_iff.mpr h1]
  rfl

/-- Settles O43. -/
theorem freezeIsGrantedOrQueued : Obligations.FreezeIsGrantedOrQueued := by
  intro s p r a h ha hright
  have hpermits : a.permits r.account p .freeze = true := by
    obtain rfl | hright := hright
    · exact a.permits_owner r.account .freeze
    · simp [Account.permits, hright]
  have judged {act : Request → Account → Response × State} {x : Response} {t : State} (hact : act r a = (x, t)) :
      Host.Outcome.next (σ := State) (φ := Fault) (ρ := Refusal)
        (s.take p 10 fun q => s.onAccount p q.account .freeze (act q)) = .next (t.respond p r.code x) :=
    next_take h ((State.onAccount_of_permits _ ha hpermits).trans hact)
  refine ⟨fun hheld => judged ?_, fun hheld hwaits => judged ?_, fun hheld hwaits => ?_⟩
  · simp [hheld]
  · simp [hheld, (FreezeUnit.isWaiting_iff_exists _ p).mpr hwaits]
  · have hnot : s.freeze.isWaiting p = false := by
      rw [← Bool.not_eq_true, FreezeUnit.isWaiting_iff_exists]
      rintro ⟨w, hw, hp⟩
      exact hwaits w hw hp
    refine ⟨fun b hfree hlow => ⟨_, judged (x := .done) (t := s.grant b p r.account) ?_, ?_, State.respond_slot _ p _ _,
      ?_, fun c hc => ?_, rfl, rfl, rfl⟩, fun h0 h1 => judged ?_⟩
    · simp [hheld, hnot, FreezeUnit.lowestFree_eq hfree hlow]
    · obtain ⟨hbuffer, hgranted⟩ := s.grant_granted b p r.account
      exact ⟨hbuffer, (State.respond_edgeSet _ p p _ _ _).mpr hgranted⟩
    · rw [State.respond_freeze, State.grant_freeze, FreezeUnit.setBuffer_waiting]
    · rw [State.respond_freeze, State.grant_freeze, FreezeUnit.setBuffer_buffer, if_neg hc]
    · simp [hheld, hnot, FreezeUnit.lowestFree_full h0 h1]

/-- What a port gives up of the freeze unit (R160 to R162, R168). -/
theorem State.giveUp_givenUp (s : State) (p : Port) : GivenUp s (s.giveUp p) p := by
  refine ⟨fun hheld hnone => ?_, fun hheld hwaits ws hws => ?_, fun b hheld => ?_⟩
  · have hnot : s.freeze.isWaiting p = false := by
      rw [← Bool.not_eq_true, FreezeUnit.isWaiting_iff_exists]
      rintro ⟨w, hw, hp⟩
      exact hnone w hw hp
    simp [State.giveUp, hheld, hnot]
  · have hgive : s.giveUp p = s.leaveWaiting p := by
      simp [State.giveUp, hheld, (FreezeUnit.isWaiting_iff_exists _ p).mpr hwaits]
    rw [hgive, State.leaveWaiting, ← hws, State.reloadIfEmpty_eq, State.reloadIfEmpty_freeze]
    rfl
  · have hgive : s.giveUp p = s.freeBuffer b := by simp [State.giveUp, hheld]
    rw [hgive]
    exact ⟨fun hw => State.freeBuffer_nil hw b, fun w rest hw => State.freeBuffer_passedOn hw b⟩

/-- Settles O44. -/
theorem unfreezeGivesTheBufferBack : Obligations.UnfreezeGivesTheBufferBack :=
  fun s p _ h => ⟨s.giveUp p, next_take h rfl, s.giveUp_givenUp p⟩

/-! ### Slot timers (O45) -/

/-- The buffer with its reclaim-due mark clear (R162, R165). -/
def State.unmarked (s : State) (b : Fin 2) (h : Holding) : State := s.setFreeze (s.freeze.setBuffer b
  { timer := (s.freeze.buffer b).timer, held := some { h with reclaimDue := false } })

theorem State.settleReclaim_owed {s : State} {b : Fin 2} {h : Holding} (hheld : (s.freeze.buffer b).held = some h)
    (hdue : h.reclaimDue = true) (hclosed : s.freezeReadOpen h.holder = false) : s.settleReclaim b =
      if s.freeze.waiting.isEmpty then s.unmarked b h else (s.unmarked b h).reclaim b h.holder := by
  simp only [State.settleReclaim, hheld, hdue, hclosed, and_self, if_true]
  rfl

theorem State.unmarked_waiting (s : State) (b : Fin 2) (h : Holding) :
    (s.unmarked b h).freeze.waiting = s.freeze.waiting := FreezeUnit.setBuffer_waiting _ _ _

/-- A deferred reclaim whose holder's read has ended is made while a port waits; else its mark clears (R165). -/
theorem State.settleReclaim_reclaimed {s : State} {b : Fin 2} {h : Holding} (hheld : (s.freeze.buffer b).held = some h)
    (hdue : h.reclaimDue = true) (hclosed : s.freezeReadOpen h.holder = false) :
    (s.freeze.waiting = [] → s.settleReclaim b = s.unmarked b h)
      ∧ ∀ w rest, s.freeze.waiting = w :: rest → Reclaimed (s.unmarked b h) (s.settleReclaim b) b h.holder w rest := by
  rw [State.settleReclaim_owed hheld hdue hclosed]
  refine ⟨fun hw => by simp [hw], fun w rest hw => ?_⟩
  rw [if_neg (by simp [hw])]
  exact State.reclaim_reclaimed (by rw [State.unmarked_waiting, hw]) b h.holder

/-- Settles O45. -/
theorem expiredSlotsAreReclaimed : Obligations.ExpiredSlotsAreReclaimed := by
  refine fun s b h hheld => ⟨fun _ => ⟨_, rfl, s.expireSlot_settled b⟩, fun hdue hclosed m hm => ?_⟩
  change m = s.unmarked b h at hm
  obtain ⟨hempty, hpasses⟩ := State.settleReclaim_reclaimed hheld hdue hclosed
  rw [hm]
  exact ⟨fun hw => congrArg Host.Outcome.next (hempty hw), fun w rest hw => ⟨_, rfl, hpasses w rest hw⟩⟩

end Sys2Proof.Machine

/-! The transactions of the serial ports (chapter 10): one rule for each event, and what a port shifts out. -/

namespace Sys2Proof.Machine

/-! ### The rules of the events (R170, R173) -/

/-- The head word of a row opens its transaction in the readout of the fall of chip select. -/
theorem next_head {s : State} {p : Port} {k : TxKind} {w : Word} {r : Readout} {head : Readout → Word → State}
    {word : Transaction → Word → State} {rise : Transaction → State} {t : State}
    (hr : (s.port p).resetAsserted = false) (hx : (s.port p).transaction = none) (hs : (s.port p).select = .low r)
    (hk : rowOf p w = k) (ht : head r w = t) : Host.Outcome.next (σ := State) (φ := Fault) (ρ := Refusal)
      (s.transact p k (.head w) head word rise) = .next t := by
  rw [State.transact_head head word rise hr hx hs hk, ht]

/-- The rise of chip select ends the transaction that stands at a port. -/
theorem next_rise {s : State} {p : Port} {k : TxKind} {x : Transaction} {head : Readout → Word → State}
    {word : Transaction → Word → State} {rise : Transaction → State} {t : State}
    (hr : (s.port p).resetAsserted = false) (hx : (s.port p).transaction = some x) (hk : x.kind = k)
    (ht : rise x = t) : Host.Outcome.next (σ := State) (φ := Fault) (ρ := Refusal)
      (s.transact p k .rise head word rise) = .next t := by
  rw [State.transact_rise head word rise hr hx hk, ht]

theorem State.enter_eq (s : State) (p : Port) (t : Transaction) :
    s.enter p t = s.setPort p { s.port p with transaction := some t, dataOut := 0xFFFF } := rfl

theorem State.shiftZero_eq (s : State) (p : Port) (t : Transaction) :
    s.shiftZero p t = s.setPort p { s.port p with transaction := some t.step, dataOut := 0 } := rfl

theorem State.close_eq (s : State) (p : Port) :
    s.close p = s.setPort p { s.port p with select := .high, transaction := none } := rfl

theorem State.writeFault_eq_setPort (s : State) (p : Port) (f : FaultInfo) :
    s.writeFault p f = s.setPort p (faultWritten (s.port p) f) := by
  rw [State.writeFault, State.updPort, PortState.writeFault_eq]
  rfl

/-- A port that has opened transaction `t` whose check failed (R146, R151, R171). -/
theorem State.failHead_eq (s : State) (p : Port) (r : Readout) (k : TxKind) (w : Word) (f : FaultInfo) :
    s.failHead p r k w f = s.setPort p { faultWritten (s.port p) f with
      transaction := some (Transaction.begin r k w false).fail, dataOut := 0xFFFF } := by
  rw [State.failHead, State.writeFault_eq_setPort, State.enter, State.updPort_setPort]

theorem State.txFault_eq (s : State) (p : Port) (t : Transaction) (f : FaultInfo) : s.txFault p t f =
    s.setPort p (if t.faulted then s.port p else faultWritten (s.port p) f) := by
  unfold State.txFault
  split
  · exact (s.setPort_same p).symm
  · exact s.writeFault_eq_setPort p f

/-- A failed check of a transaction writes its fault once (R146). -/
theorem State.txFault_shift (s : State) (p : Port) (t u : Transaction) (f : FaultInfo) (d : Word) :
    (s.txFault p t f).shift p u d = s.setPort p { (if t.faulted then s.port p else faultWritten (s.port p) f) with
      transaction := some u, dataOut := d } := by
  rw [State.txFault_eq, State.shift, State.updPort_setPort]

theorem State.failEntry_eq (s : State) (p : Port) (t : Transaction) (f : FaultInfo) : s.failEntry p t f =
    s.setPort p { (if t.faulted then s.port p else faultWritten (s.port p) f) with
      transaction := some t.fail.step, dataOut := 0 } := s.txFault_shift p t t.fail.step f 0

/-- A word shifted out, a saturated COMPACT value with LIMITED (R173, R176). -/
theorem State.shiftOut_eq (s : State) (p : Port) (t : Transaction) (v : OutWord) :
    s.shiftOut p t v = s.setPort p (wordOut (s.port p) t.step v) := by
  rw [State.shiftOut, State.shift, State.updPort_updPort, State.updPort]
  congr 1
  unfold wordOut
  cases v.saturated
  · simp
  · simp [PortState.setLimited]

theorem wordOut_unsaturated {x : PortState} {y : Transaction} {v : OutWord} (h : v.saturated = false) :
    wordOut x y v = { x with transaction := some y, dataOut := v.word } := by simp [wordOut, h]

/-- The first of the latched words is shifted out (R145, R173). -/
theorem State.pop_cons {s : State} {p : Port} {t : Transaction} {v : OutWord} {vs : List OutWord}
    (h : t.latch = v :: vs) : s.pop p t = s.setPort p (wordOut (s.port p) { t with latch := vs }.step v) := by
  rw [State.pop_of_latch h, State.shiftOut_eq]

/-- With no word latched, the word lies past the end (R173). -/
theorem State.pop_nil {s : State} {p : Port} {t : Transaction} (h : t.latch = []) : s.pop p t = s.setPort p
    { s.port p with transaction := some t.step, dataOut := 0, overrun := true, overrunSince := true } := by
  rw [← State.shiftPast_eq, State.pop, h]

theorem State.readItem_some {s : State} {p : Port} {x : Transaction} {v : OutWord} (hz : x.zeros = false)
    (hv : x.latch[x.pointer]? = some v) : s.readItem p x = s.shiftOut p x v := by simp [State.readItem, hz, hv]

theorem State.readItem_none {s : State} {p : Port} {x : Transaction} (hz : x.zeros = false)
    (hv : x.latch[x.pointer]? = none) : s.readItem p x = s.shiftPast p x := by simp [State.readItem, hz, hv]

/-- A data word of an item latched whole (R172, R173). -/
theorem State.readItem_moved (s : State) (p : Port) (x : Transaction) : ItemWordMoved s (s.readItem p x) p x := by
  rintro y rfl
  refine ⟨fun hz => if_pos hz, fun hz v hv hsat => ?_, fun hz hv => ?_⟩
  · rw [State.readItem_some hz hv, State.shiftOut_eq, wordOut_unsaturated hsat]
    rfl
  · rw [State.readItem_none hz hv, State.shiftPast_eq]
    rfl

/-! ### Refused head words (O49) -/

theorem decodeHead_write (w : Word) : (decodeHead w).write = w.getLsbD 11 := rfl

theorem decodeHead_item (w : Word) : (decodeHead w).item = w.extractLsb' 0 8 := rfl

theorem faultWritten_fault (x : PortState) (f : FaultInfo) : (faultWritten x f).fault =
    if x.fault.content = none then { x.fault with content := some f } else { x.fault with overflow := true } := rfl

/-- A row whose head words the port refuses: what the head word and each later word answer. -/
theorem refused_transact {s : State} {p : Port} {k : TxKind} {w : Word} {f : Word → FaultInfo} {d : Word}
    (hr : (s.port p).resetAsserted = false) {c : TxEvent → Instr} (hc : ∀ e, exec (c e) s = .next (s.transact p k e
      (fun r v => s.failHead p r k v (f v)) (fun t _ => s.shift p t.step d) fun _ => s.close p)) :
    (AwaitsHead (s.port p) → rowOf p w = k → ∃ t, exec (c (.head w)) s = .next t
        ∧ ((s.port p).fault.content = none → (t.port p).fault = { (s.port p).fault with content := some (f w) })
        ∧ ((s.port p).fault.content ≠ none → (t.port p).fault = { (s.port p).fault with overflow := true }))
      ∧ ∀ x, (s.port p).transaction = some x → x.kind = k → exec (c (.word w)) s = .next (s.setPort p { s.port p with
          transaction := some { x with pointer := x.pointer + 1, moved := x.moved + 1 }, dataOut := d }) := by
  refine ⟨fun ⟨hx, r, hs⟩ hk => ⟨_, (hc _).trans (next_head hr hx hs hk rfl), fun hnone => ?_, fun hsome => ?_⟩,
    fun x hx hk => (hc _).trans (next_word hr hx hk rfl)⟩
  · rw [State.failHead_eq, State.setPort_port, if_pos rfl]
    exact if_pos hnone
  · rw [State.failHead_eq, State.setPort_port, if_pos rfl]
    exact if_neg hsome

/-- Settles O49. -/
theorem refusedHeadWordsWriteTheirFault : Obligations.RefusedHeadWordsWriteTheirFault := by
  intro p k s w i hr hk hi c hc
  obtain rfl | rfl | rfl := hk <;> subst hi hc
  · exact refused_transact (f := wrongDirectionFault) hr fun _ => rfl
  · exact refused_transact (f := wrongDirectionFault) hr fun _ => rfl
  · exact refused_transact (f := absentItemFault) hr fun _ => rfl

/-! ### What a head word and a rise keep (O48) -/

/-- `t` is `s` with port `p` in transaction `x`, FFFFh shifted out. -/
def Entered (s t : State) (p : Port) (x : Transaction) : Prop := ∃ y d, t = { s.setPort p y with freeDraws := d }
  ∧ y.transaction = some x ∧ y.dataOut = 0xFFFF ∧ y.select = (s.port p).select

/-- `x` is a transaction of the row `k` right after its head word `w`, in the readout `r`. -/
def Begun (x : Transaction) (r : Readout) (k : TxKind) (w : Word) : Prop :=
  x.kind = k ∧ x.head = w ∧ x.offset = none ∧ x.moved = 0 ∧ x.format = r.format ∧ x.exponent = r.exponent

/-- What the head word of a row makes of the state. -/
def HeadEnters (s : State) (p : Port) (k : TxKind) (head : Readout → Word → State) : Prop :=
  ∀ r w, ∃ x, Entered s (head r w) p x ∧ Begun x r k w

theorem State.enter_entered (s : State) (p : Port) (t : Transaction) : Entered s (s.enter p t) p t :=
  ⟨_, s.freeDraws, rfl, rfl, rfl, rfl⟩

theorem State.drawn_enter_entered (s : State) (p : Port) (t : Transaction) : Entered s (s.drawn.enter p t) p t :=
  ⟨_, s.freeDraws + 1, rfl, rfl, rfl, rfl⟩

theorem Entered.updPort {s t : State} {p : Port} {x : Transaction} (h : Entered s t p x) {f : PortState → PortState}
    (hf : ∀ y, (f y).transaction = y.transaction ∧ (f y).dataOut = y.dataOut ∧ (f y).select = y.select) :
    Entered s (t.updPort p f) p x := by
  obtain ⟨y, d, rfl, hx, hd, hs⟩ := h
  obtain ⟨ftx, fout, fsel⟩ := hf y
  refine ⟨f y, d, ?_, ftx.trans hx, fout.trans hd, fsel.trans hs⟩
  have hport : ({ s.setPort p y with freeDraws := d } : State).port p = y :=
    (s.setPort_port p p y).trans (if_pos rfl)
  rw [State.updPort, hport]
  exact congrArg (fun z : State => { z with freeDraws := d }) (s.setPort_setPort p y (f y))

theorem State.failHead_entered (s : State) (p : Port) (r : Readout) (k : TxKind) (w : Word) (f : FaultInfo) :
    Entered s (s.failHead p r k w f) p (Transaction.begin r k w false).fail := by
  rw [State.failHead_eq]
  exact ⟨_, s.freeDraws, rfl, rfl, rfl, rfl⟩

theorem Transaction.begin_begun (r : Readout) (k : TxKind) (w : Word) (o : Bool) :
    Begun (Transaction.begin r k w o) r k w := ⟨rfl, rfl, rfl, rfl, rfl, rfl⟩

theorem State.openHead_enters (s : State) (p : Port) : HeadEnters s p .openItem (s.openHead p) := by
  intro r w
  refine ⟨{ Transaction.begin r .openItem w true with latch := plainWords (openItemWords s p (decodeHead w)) }, ?_,
    Transaction.begin_begun _ _ _ true⟩
  have hentered := s.drawn_enter_entered p { Transaction.begin r .openItem w true with
    latch := plainWords (openItemWords s p (decodeHead w)) }
  unfold State.openHead
  dsimp only
  split
  · exact hentered.updPort fun _ => ⟨rfl, rfl, rfl⟩
  · exact hentered

theorem State.pendingHead_enters (s : State) (p : Port) : HeadEnters s p .pendingSet (s.pendingHead p) := by
  intro r w
  unfold State.pendingHead
  exact ⟨_, (s.enter_entered p _).updPort fun _ => ⟨rfl, rfl, rfl⟩, Transaction.begin_begun r .pendingSet w true⟩

theorem State.faultHead_enters (s : State) (p : Port) : HeadEnters s p .faultRecord (s.faultHead p) := by
  intro r w
  unfold State.faultHead
  exact ⟨_, (s.drawn_enter_entered p _).updPort fun _ => ⟨rfl, rfl, rfl⟩, Transaction.begin_begun r .faultRecord w true⟩

theorem State.accountHead_enters (s : State) (p : Port) : HeadEnters s p .account (s.accountHead p) := by
  intro r w
  unfold State.accountHead
  dsimp only
  split
  · exact ⟨_, s.failHead_entered p r _ w _, Transaction.begin_begun _ _ _ false⟩
  · split
    · exact ⟨_, s.drawn_enter_entered p _, Transaction.begin_begun _ _ _ true⟩
    · exact ⟨_, s.failHead_entered p r _ w _, Transaction.begin_begun _ _ _ false⟩

theorem State.entryHead_enters (s : State) (p : Port) (k : TxKind) : HeadEnters s p k (s.entryHead p k) := by
  intro r w
  unfold State.entryHead
  split
  · exact ⟨_, s.failHead_entered p r _ w _, Transaction.begin_begun _ _ _ false⟩
  · exact ⟨_, s.enter_entered p _, Transaction.begin_begun _ _ _ true⟩

theorem State.freezeHead_enters (s : State) (p : Port) : HeadEnters s p .freeze (s.freezeHead p) := by
  intro r w
  unfold State.freezeHead
  split
  · exact ⟨_, s.failHead_entered p r _ w _, Transaction.begin_begun _ _ _ false⟩
  · exact ⟨_, s.enter_entered p _, Transaction.begin_begun _ _ _ true⟩

/-! #### The end of a transaction -/

/-- Each port of `t` is that of `s` but for its edge indications. -/
def EdgesAlone (s t : State) : Prop :=
  ∀ q, t.port q = { s.port q with edges := (t.port q).edges, edgesSince := (t.port q).edgesSince }

theorem EdgesAlone.refl (s : State) : EdgesAlone s s := fun _ => rfl

theorem EdgesAlone.trans {s t u : State} (h : EdgesAlone s t) (k : EdgesAlone t u) : EdgesAlone s u := by
  intro q
  rw [k q, h q]

theorem State.raise_edgesAlone (s : State) (p : Port) (e : Event) : EdgesAlone s (s.raise p e) := by
  intro q
  rw [State.raise_port]
  split
  · rename_i hq
    rw [hq]
    rfl
  · rfl

theorem State.freeBuffer_edgesAlone (s : State) (b : Fin 2) : EdgesAlone s (s.freeBuffer b) := by
  cases hw : s.freeze.waiting with
  | nil =>
    rw [State.freeBuffer_nil hw]
    exact .refl s
  | cons w rest =>
    obtain ⟨_, _, _, ⟨hraised, _⟩, hother, _⟩ := State.freeBuffer_passedOn hw b
    intro q
    by_cases hq : q = w.port
    · rw [hq]
      exact hraised
    · rw [hother q hq]

theorem State.giveUp_edgesAlone (s : State) (p : Port) : EdgesAlone s (s.giveUp p) := by
  unfold State.giveUp
  split
  · exact s.freeBuffer_edgesAlone _
  · split
    · rw [State.leaveWaiting]
      intro q
      rw [State.reloadIfEmpty_port]
      rfl
    · exact .refl s

theorem State.settleReclaim_edgesAlone (s : State) (b : Fin 2) : EdgesAlone s (s.settleReclaim b) := by
  unfold State.settleReclaim
  split
  · split
    · dsimp only
      split
      · exact .refl s
      · exact ((State.raise_edgesAlone (s.setFreeze _) _ _).trans (State.freeBuffer_edgesAlone _ b) :)
    · exact .refl s
  · exact .refl s

theorem State.endFreezeRead_edgesAlone (s : State) (p : Port) : EdgesAlone s (s.endFreezeRead p) := by
  unfold State.endFreezeRead
  split
  · exact s.settleReclaim_edgesAlone _
  · exact .refl s

/-- What the rise of chip select makes of the state: the transaction has ended (R170). -/
def Closed (s t : State) (p : Port) : Prop :=
  (t.port p).transaction = none ∧ (t.port p).select = .high ∧ t.accounts = s.accounts ∧ t.joint = s.joint

theorem State.close_closed (s : State) (p : Port) : Closed s (s.close p) p := by
  have hport : (s.close p).port p = { s.port p with select := .high, transaction := none } := by
    rw [State.close_eq, State.setPort_port, if_pos rfl]
  exact ⟨by rw [hport], by rw [hport], rfl, rfl⟩

theorem Closed.of_updPort {s t : State} {p : Port} (h : Closed s t p) {f : PortState → PortState}
    (hf : ∀ y, (f y).transaction = y.transaction ∧ (f y).select = y.select) : Closed s (t.updPort p f) p := by
  obtain ⟨htx, hsel, haccounts, hjoint⟩ := h
  obtain ⟨ftx, fsel⟩ := hf (t.port p)
  have hport : (t.updPort p f).port p = f (t.port p) := by rw [State.updPort_port, if_pos rfl]
  exact ⟨by rw [hport, ftx, htx], by rw [hport, fsel, hsel], haccounts, hjoint⟩

theorem Closed.judgeRecord {s t : State} {p : Port} (h : Closed s t p) (x : Transaction) :
    Closed s (t.judgeRecord p x) p := by
  unfold State.judgeRecord State.answerAt
  split
  · exact h.of_updPort fun _ => ⟨rfl, rfl⟩
  · split
    · exact h.of_updPort fun _ => ⟨rfl, rfl⟩
    · split
      · exact h.of_updPort fun _ => ⟨rfl, rfl⟩
      · exact h.of_updPort fun _ => ⟨rfl, rfl⟩

theorem Closed.endFreezeRead {s t : State} {p : Port} (h : Closed s t p) : Closed s (t.endFreezeRead p) p := by
  obtain ⟨htx, hsel, haccounts, hjoint⟩ := h
  have hport := t.endFreezeRead_edgesAlone p p
  have hleaves := (t.endFreezeRead_freezeAndPorts p).leaves (f := { freeze := true }) rfl
  exact ⟨by rw [hport, htx], by rw [hport, hsel], (hleaves.accounts rfl).trans haccounts,
    (hleaves.joint rfl).trans hjoint⟩

/-- A command of a transaction row runs that row's events. -/
theorem exec_transaction {c : Instr} {p : Port} {k : TxKind} {e : TxEvent} (h : c.transaction = some (p, k, e))
    (s : State) : ∃ head word rise, exec c s = .next (s.transact p k e head word rise) ∧ HeadEnters s p k head
      ∧ ∀ x, Closed s (rise x) p := by
  have hclose : ∀ x : Transaction, Closed s ((fun _ => s.close p) x) p := fun _ => s.close_closed p
  cases c with
  | requestRecord q f =>
    cases h
    exact ⟨_, _, _, rfl, fun r w => ⟨_, s.enter_entered p _, Transaction.begin_begun _ _ _ true⟩,
      fun x => (s.close_closed p).judgeRecord x⟩
  | draftWrite q f =>
    cases h
    exact ⟨_, _, _, rfl, fun r w => ⟨_, s.enter_entered p _, Transaction.begin_begun _ _ _ true⟩, hclose⟩
  | statusRead q f =>
    cases h
    exact ⟨_, _, _, rfl, s.openHead_enters p, hclose⟩
  | pendingSetRead q f =>
    cases h
    exact ⟨_, _, _, rfl, s.pendingHead_enters p, fun x => (s.close_closed p).of_updPort fun _ => ⟨rfl, rfl⟩⟩
  | faultRecordRead q f =>
    cases h
    refine ⟨_, _, _, rfl, s.faultHead_enters p, fun x => (s.close_closed p).of_updPort fun y => ?_⟩
    unfold PortState.faultRead
    split <;> exact ⟨rfl, rfl⟩
  | accountRead q f =>
    cases h
    exact ⟨_, _, _, rfl, s.accountHead_enters p, hclose⟩
  | binsRead q f =>
    cases h
    exact ⟨_, _, _, rfl, s.entryHead_enters p .bins, hclose⟩
  | ringWalk q f =>
    cases h
    exact ⟨_, _, _, rfl, s.entryHead_enters p .history, hclose⟩
  | freezeRead q f =>
    cases h
    exact ⟨_, _, _, rfl, s.freezeHead_enters p, fun _ => (s.close_closed p).endFreezeRead⟩
  | badFraming q f =>
    cases h
    exact ⟨_, _, _, rfl, fun r w => ⟨_, s.failHead_entered p r _ w _, Transaction.begin_begun _ _ _ false⟩, hclose⟩
  | wrongDirectionAccess q f =>
    cases h
    exact ⟨_, _, _, rfl, fun r w => ⟨_, s.failHead_entered p r _ w _, Transaction.begin_begun _ _ _ false⟩, hclose⟩
  | absentItemAccess q f =>
    cases h
    exact ⟨_, _, _, rfl, fun r w => ⟨_, s.failHead_entered p r _ w _, Transaction.begin_begun _ _ _ false⟩, hclose⟩
  | _ => cases h

theorem State.between_head {s : State} {p : Port} {k : TxKind} {e : TxEvent} {w : Word} (he : e = .head w ∨ e = .word w)
    (hs : (s.port p).select = .ignored) (head : Readout → Word → State) :
    s.between p k e head = s.ignoreWord p := by
  obtain rfl | rfl := he <;> simp [State.between, hs]

/-- Settles O48. -/
theorem transactionsBeginAndEnd : Obligations.TransactionsBeginAndEnd := by
  intro c p k s
  refine ⟨fun hr e hc => ?_, fun hr => ⟨fun hc hx hs => ?_, fun w hc hawaits hrow => ?_, fun hc hx => ?_,
    fun e w he hc hx hs => ?_, fun x hc hx hk => ?_⟩⟩
  · obtain ⟨head, word, rise, hexec, _⟩ := exec_transaction hc s
    rw [hexec, State.transact_heldOff head word rise hr, State.updPort]
    cases e with
    | fall => exact ⟨.ignored, rfl, fun _ => rfl, nofun, fun ⟨_, h⟩ => by obtain h | h := h <;> cases h⟩
    | rise => exact ⟨.high, rfl, nofun, fun _ => rfl, fun ⟨_, h⟩ => by obtain h | h := h <;> cases h⟩
    | head w => exact ⟨_, rfl, nofun, nofun, fun _ => rfl⟩
    | word w => exact ⟨_, rfl, nofun, nofun, fun _ => rfl⟩
  · obtain ⟨head, word, rise, hexec, _⟩ := exec_transaction hc s
    rw [hexec, State.transact_between head word rise hr hx, State.between, if_pos hs]
    rfl
  · obtain ⟨head, word, rise, hexec, hhead, _⟩ := exec_transaction hc s
    obtain ⟨hx, r, hs⟩ := hawaits
    obtain ⟨x, ⟨y, d, hy, htx, hout, hsel⟩, hkind, hw, hoff, hmoved, hformat, hexponent⟩ := hhead r w
    have hport (q : Port) : (head r w).port q = if q = p then y else s.port q := by
      rw [hy]
      exact s.setPort_port p q y
    refine ⟨_, x, hexec.trans (next_head hr hx hs hrow rfl), ?_, hkind, hw, hoff, ?_, ?_, hmoved, ?_, ?_, ?_, ?_,
      fun q hq => ?_⟩
    · rw [hport, if_pos rfl, htx]
    · rw [hs, hformat, hexponent]
    · rw [hport, if_pos rfl, hsel]
    · rw [hport, if_pos rfl, hout]
    · rw [hy]; rfl
    · rw [hy]; rfl
    · rw [hy]; rfl
    · rw [hport, if_neg hq]
  · obtain ⟨head, word, rise, hexec, _⟩ := exec_transaction hc s
    have hnone : ({ s.port p with select := .high, transaction := none } : PortState) =
        { s.port p with select := .high } := by rw [← hx]
    rw [hexec, State.transact_between head word rise hr hx, ← hnone]
    rfl
  · obtain ⟨head, word, rise, hexec, _⟩ := exec_transaction hc s
    rw [hexec, State.transact_between head word rise hr hx, State.between_head he hs, State.ignoreWord_eq]
    exact ⟨_, _, rfl⟩
  · obtain ⟨head, word, rise, hexec, _, hclosed⟩ := exec_transaction hc s
    exact ⟨_, hexec.trans (next_rise hr hx hk rfl), hclosed x⟩

/-! ### Request records (O56) -/

/-- The bin count of an OPEN_ACCOUNT record, bits 5 to 0 of its third word (10.7). -/
theorem binCount_toNat (w : Word) : (w.extractLsb' 0 6).toNat = w.toNat % 64 := by
  rw [BitVec.extractLsb'_toNat, Nat.shiftRight_zero]

theorem binWords_ite (n : Nat) : (if n ≤ 40 then 8 + (n + 1) / 2 else 8) = 8 + if 40 < n then 0 else (n + 1) / 2 := by
  by_cases hn : n ≤ 40
  · rw [if_pos hn, if_neg (Nat.not_lt.mpr hn)]
  · rw [if_neg hn, if_pos (Nat.not_le.mp hn)]

/-- The length of a record by its request code (R177, 10.7). -/
theorem neededWords_eq (code : Nat) (ws : List Word) : neededWords code ws = recordLength code ws := by
  by_cases h : code ≤ 18
  · by_cases hopen : code = 1
    · simp only [hopen, neededWords, recordLength, binCount_toNat, if_true]
      exact congrArg some (binWords_ite _)
    · interval_cases code
      · rfl
      · exact absurd rfl hopen
      all_goals rfl
  · obtain ⟨n, rfl⟩ : ∃ n, code = n + 19 := ⟨code - 19, by omega⟩
    have hnone : recordLength (n + 19) ws = none := rfl
    rw [hnone]
    simp [neededWords]

theorem Transaction.item_eq (t : Transaction) : t.item = t.head.extractLsb' 0 8 := rfl

/-- What the rise of chip select answers to the record of transaction `x` (R177, R178). -/
theorem State.close_answerAt (s : State) (p : Port) (code : Byte) (r : Response) : (s.close p).answerAt p code r =
    s.setPort p { s.port p with select := .high, transaction := none, slot := .answered code r } := by
  rw [State.answerAt, State.close, State.updPort_updPort]
  rfl

theorem State.close_port (s : State) (p : Port) :
    (s.close p).port p = { s.port p with select := .high, transaction := none } := by
  rw [State.close_eq, State.setPort_port, if_pos rfl]

/-- Settles O56. -/
theorem requestRecordIsJudgedAtItsEnd : Obligations.RequestRecordIsJudgedAtItsEnd := by
  intro s p x code hr hx hk hcode
  have hitem : x.item = code := hcode.symm
  have hneeded := neededWords_eq code.toNat x.words
  have hflight : ((s.close p).port p).inFlight = (s.port p).inFlight := by rw [State.close_port]
  refine ⟨fun hnone => next_rise hr hx hk ?_, fun m hm => ⟨fun hshort => next_rise hr hx hk ?_,
    fun hlong hbusy => next_rise hr hx hk ?_, fun hlong hfree => next_rise hr hx hk ?_, fun w y hy =>
      ⟨fun hroom => next_word hr hx hk ?_, fun hfull => next_word hr hx hk ?_⟩⟩⟩
  · simp only [State.judgeRecord, hitem, hneeded, hnone]
    exact s.close_answerAt p code .unknown
  · simp only [State.judgeRecord, hitem, hneeded, hm, if_pos hshort]
    exact s.close_answerAt p code .invalid
  · simp only [State.judgeRecord, hitem, hneeded, hm, if_neg (Nat.not_lt.mpr hlong), hflight]
    rw [if_pos (Option.isSome_iff_ne_none.mpr hbusy)]
    exact s.close_answerAt p code .busy
  · simp only [State.judgeRecord, hitem, hneeded, hm, if_neg (Nat.not_lt.mpr hlong), hflight, hfree]
    rw [if_neg (by simp), State.close, State.updPort_updPort]
    rfl
  · simp only [State.requestWord, hitem, hneeded, hm, if_pos hroom]
    rw [hy]
    rfl
  · simp only [State.requestWord, hitem, hneeded, hm, if_neg (Nat.not_lt.mpr hfull)]
    rw [hy, State.shiftPast_eq]
    rfl

/-! ### SET_PORT and the event line (O57) -/

theorem formatOf_iff {c : Nat} {f : Format} : formatOf c = some f ↔ formatCode f = c := by
  unfold formatOf
  split <;> [skip; split <;> [skip; split]] <;> cases f <;> simp [formatCode] <;> omega

theorem Event.maskIf_getLsbD (e : Event) (b : Bool) (k : Nat) :
    (e.maskIf b).getLsbD k = true ↔ k = e.bit ∧ b = true := by
  have hbit : e.bit < 12 := by cases e <;> decide
  unfold Event.maskIf
  cases b
  · simp
  · simp only [if_true, Event.mask, BitVec.getLsbD_twoPow, hbit, decide_true, Bool.true_and, decide_eq_true_eq, and_true]
    exact eq_comm

theorem State.linkLevel_iff (s : State) : s.linkLevel = true ↔
    ∃ i, s.joint.committed.enabled.get i = true ∧ (s.receiver i).state ≠ .locked := by
  have hboth {q : Incomer → Prop} : (∃ i, q i) ↔ q .A ∨ q .B :=
    ⟨fun ⟨i, h⟩ => by cases i <;> simp [h], fun h => h.elim (⟨_, ·⟩) (⟨_, ·⟩)⟩
  rw [hboth, State.linkLevel, Bool.or_eq_true, Bool.and_eq_true, Bool.and_eq_true, bne_iff_ne, bne_iff_ne]
  rfl

/-- The bits of the event status are the indications that stand (R179). -/
theorem State.eventStatus_getLsbD (s : State) (p : Port) (k : Nat) :
    (s.eventStatus p).getLsbD k = true ↔ IndicationStands s p k := by
  have hproposal : s.proposalLevel p = true ↔ ∃ q, s.joint.proposal = some q ∧ p ≠ .C ∧ p ≠ q.proposer := by
    unfold State.proposalLevel
    cases s.joint.proposal <;> simp
  unfold State.eventStatus State.levels IndicationStands
  simp only [BitVec.getLsbD_or, Bool.or_eq_true, Event.maskIf_getLsbD, hproposal, State.linkLevel_iff, or_assoc]
  simp only [State.watchLevel, State.faultLevel, State.timeLevel, Event.bit, Bool.not_eq_true', List.isEmpty_eq_false_iff,
    Option.isSome_iff_ne_none, bne_iff_ne]

/-- The event line of a port is low exactly while an enabled indication stands (R181). -/
theorem State.eventLineLow_iff (s : State) (p : Port) : s.eventLineLow p = true ↔
    ∃ k, (s.port p).settings.enables.getLsbD k = true ∧ IndicationStands s p k := by
  have hbits (x : BitVec 12) : x ≠ 0 ↔ ∃ k, x.getLsbD k = true := by
    constructor
    · intro hne
      by_contra hall
      refine hne (BitVec.eq_of_getLsbD_eq fun k _ => ?_)
      rw [Bool.eq_false_iff.mpr fun h => hall ⟨k, h⟩]
      simp
    · rintro ⟨k, hk⟩ rfl
      simp at hk
  rw [State.eventLineLow, bne_iff_ne, hbits]
  refine exists_congr fun k => ?_
  rw [BitVec.getLsbD_and, Bool.and_eq_true, State.eventStatus_getLsbD, and_comm]

/-! #### Port resets -/

theorem State.withdrawOwn_eq (s : State) (p : Port) : s.withdrawOwn p = s.setJoint (s.withdrawOwn p).joint := by
  unfold State.withdrawOwn
  split
  · split <;> rfl
  · rfl

/-- The joint table unit after the reset of a port (R77). -/
theorem State.withdrawOwn_joint (s : State) (p : Port) : (s.withdrawOwn p).joint = { s.joint with
    proposal := s.joint.proposal.bind fun q => if q.proposer = p then none else some q } := by
  unfold State.withdrawOwn
  cases hq : s.joint.proposal with
  | none =>
    simp only [Option.bind_none]
    rw [← hq]
  | some q =>
    by_cases hp : q.proposer = p
    · simp only [Option.bind_some, hp, if_true]
      rfl
    · simp only [Option.bind_some, hp, if_false]
      rw [← hq]

theorem exec_portReset (p : Port) (s : State) : exec (.portReset p) s = .next (((s.giveUp p).setJoint
    (((s.withdrawOwn p).joint).loadDraft p)).updPort p PortState.reset) := by
  simp only [exec, execPortReset]
  rw [State.withdrawOwn_congr (s.giveUp_joint p), State.withdrawOwn_eq]
  rfl

theorem PortState.reset_eq (x : PortState) : x.reset = { PortState.start false true x.select.cut with
    edges := 0, edgesSince := 0 } := rfl

theorem reloaded_holder (s : State) (x : Buffer) : (reloaded s x).holder = x.holder := by
  rw [← Buffer.reload_eq, Buffer.reload_holder]

/-- A port that has given up what it had neither holds a buffer nor waits (R160, R168). -/
theorem GivenUp.apart {s m : State} {p : Port} (h : GivenUp s m p) (hs : s.freeze.Law) :
    m.freeze.heldBy p = none ∧ ∀ w ∈ m.freeze.waiting, w.port ≠ p := by
  obtain ⟨hnothing, hwaits, hholds⟩ := h
  cases hheld : s.freeze.heldBy p with
  | none =>
    have hnone := (FreezeUnit.heldBy_eq_none _ _).mp hheld
    by_cases hw : ∃ w ∈ s.freeze.waiting, w.port = p
    · obtain ⟨ws, hws⟩ : ∃ ws, ws = s.freeze.waiting.filter fun w => w.port != p := ⟨_, rfl⟩
      have hleft : ∀ w ∈ ws, w.port ≠ p := by
        intro w hmem
        rw [hws] at hmem
        simpa using (List.mem_filter.mp hmem).2
      rw [hwaits hheld hw ws hws, FreezeUnit.heldBy_eq_none]
      split
      · refine ⟨Fin.forall_fin_two.mpr ⟨?_, ?_⟩, nofun⟩
        · exact (reloaded_holder s s.freeze.buffer0).symm ▸ hnone 0
        · exact (reloaded_holder s s.freeze.buffer1).symm ▸ hnone 1
      · exact ⟨hnone, hleft⟩
    · have hnot : ∀ w ∈ s.freeze.waiting, w.port ≠ p := fun w hmem hp => hw ⟨w, hmem, hp⟩
      rw [hnothing hheld hnot]
      exact ⟨hheld, hnot⟩
  | some b =>
    have hholder := FreezeUnit.holder_of_heldBy hheld
    have hother (c : Fin 2) (hc : c ≠ b) : (s.freeze.buffer c).holder ≠ some p := fun hp => hc (hs.unique c b p hp hholder)
    have hwaiter (w : Waiter) (hw : w ∈ s.freeze.waiting) : w.port ≠ p := by
      rintro rfl
      exact hs.apart w hw b hholder
    obtain ⟨hfree, hpass⟩ := hholds b hheld
    rw [FreezeUnit.heldBy_eq_none]
    cases hw : s.freeze.waiting with
    | nil =>
      rw [hfree hw]
      refine ⟨fun c => ?_, ?_⟩
      · rw [State.setFreeze, FreezeUnit.setBuffer_buffer]
        split
        · nofun
        · exact hother c ‹_›
      · rw [State.setFreeze, FreezeUnit.setBuffer_waiting, hw]
        nofun
    | cons w rest =>
      obtain ⟨⟨⟨k, _, hbuffer⟩, _⟩, hwaiting, hothers, _⟩ := hpass w rest hw
      refine ⟨fun c => ?_, fun v hv => ?_⟩
      · by_cases hc : c = b
        · rw [hc, hbuffer]
          exact fun hp => hwaiter w (hw ▸ List.mem_cons_self) (Option.some_inj.mp hp)
        · rw [hothers c hc]
          split
          · rw [reloaded_holder]
            exact hother c hc
          · exact hother c hc
      · rw [hwaiting] at hv
        exact hwaiter v (hw ▸ List.mem_cons_of_mem w hv)

theorem Joint.loadDraft_eq (j : Joint) (p : Port) : (j.loadDraft p).committed = j.committed
    ∧ (j.loadDraft p).epoch = j.epoch ∧ (j.loadDraft p).serialCounter = j.serialCounter
    ∧ (j.loadDraft p).proposal = j.proposal ∧ (∀ k, k ≠ p → (j.loadDraft p).draft k = j.draft k)
    ∧ ∀ d, (j.loadDraft p).draft p = some d → d = { table := j.committed, baseEpoch := j.epoch } := by
  cases p
  · refine ⟨rfl, rfl, rfl, rfl, fun k hk => ?_, fun d hd => (Option.some_inj.mp hd).symm⟩
    cases k with
    | U => exact absurd rfl hk
    | F => exact rfl
    | C => exact rfl
  · refine ⟨rfl, rfl, rfl, rfl, fun k hk => ?_, fun d hd => (Option.some_inj.mp hd).symm⟩
    cases k with
    | U => exact rfl
    | F => exact absurd rfl hk
    | C => exact rfl
  · exact ⟨rfl, rfl, rfl, rfl, fun _ _ => rfl, nofun⟩

/-- Settles O57. -/
theorem setPortAndPortReset : Obligations.SetPortAndPortReset := by
  refine ⟨fun s p r f k h hf hk => ⟨fun hbad => next_take h ?_, fun hf3 hk6 => ?_⟩, fun s p => s.eventLineLow_iff p,
    fun s p => ⟨_, s.giveUp p, exec_portReset p s, s.giveUp_givenUp p, rfl, rfl, fun k hk => ?_⟩, fun s p hlaw => ?_,
    fun s p => rfl⟩
  · have hf4 : f < 4 := hf ▸ ((r.word 0).extractLsb' 0 2).isLt
    simp only [← hf, ← hk]
    cases hformat : formatOf f with
    | none => rfl
    | some g =>
      have hne : f ≠ 3 := by
        rw [← formatOf_iff.mp hformat]
        cases g <;> decide
      exact if_neg (Nat.not_le.mpr (hbad.resolve_left hne))
  · have hf4 : f < 4 := hf ▸ ((r.word 0).extractLsb' 0 2).isLt
    obtain ⟨g, hg⟩ : ∃ g, formatCode g = f := by
      interval_cases f
      · exact ⟨.full, rfl⟩
      · exact ⟨.whole, rfl⟩
      · exact ⟨.compact, rfl⟩
      · exact absurd rfl hf3
    refine ⟨g, hg, next_take h ?_⟩
    simp only [← hf, ← hk, formatOf_iff.mpr hg]
    exact if_pos hk6
  · rw [State.updPort_port, if_neg hk]
    rfl
  · obtain ⟨t, ht⟩ : ∃ t, t = ((s.giveUp p).setJoint (((s.withdrawOwn p).joint).loadDraft p)).updPort p PortState.reset :=
      ⟨_, rfl⟩
    have hexec : exec (.portReset p) s = .next t := ht ▸ exec_portReset p s
    have hleaves := Leaves.of_exec hexec
    have hself : t.port p = ((s.giveUp p).port p).reset := by
      rw [ht, State.updPort_port, if_pos rfl]
      rfl
    have hothers (k : Port) (hk : k ≠ p) : t.port k = (s.giveUp p).port k := by
      rw [ht, State.updPort_port, if_neg hk]
      rfl
    have hselect : ((s.giveUp p).port p).select = (s.port p).select := by rw [s.giveUp_edgesAlone p p]
    have hjoint : t.joint = ((s.withdrawOwn p).joint).loadDraft p := by rw [ht]; rfl
    have hfreeze : t.freeze = (s.giveUp p).freeze := by rw [ht]; rfl
    obtain ⟨hheld, hwaiting⟩ := GivenUp.apart (s.giveUp_givenUp p) ((State.freezeLaw_iff s).mp hlaw)
    obtain ⟨hcommitted, hepoch, hserial, hproposal, hdrafts, hdraft⟩ := (s.withdrawOwn p).joint.loadDraft_eq p
    rw [State.withdrawOwn_joint] at hcommitted hepoch hserial hproposal hdrafts hdraft hjoint
    refine ⟨t, hexec, ?_, ?_, hfreeze ▸ hheld, hfreeze ▸ hwaiting, fun q hq => ?_, fun d hd => ?_, fun k hk => ?_, ?_, ?_, ?_,
      fun k hk => ?_, hleaves.accounts rfl, hleaves.time rfl, hleaves.receivers rfl, hleaves.assemblers rfl,
      hleaves.calculator rfl, hleaves.posting rfl, hleaves.engine rfl⟩
    · rw [hself, PortState.reset_eq, hselect, ChipSelect.cut_eq]
    · have hnone : (t.port p).settings.enables = 0#12 := by rw [hself]; rfl
      rw [State.eventLineLow, hnone, BitVec.and_zero]
      rfl
    · rw [hjoint, hproposal, hq]
      rfl
    · rw [hjoint] at hd
      exact hdraft d hd
    · rw [hjoint]
      exact hdrafts k hk
    · rw [hjoint]
      exact hcommitted
    · rw [hjoint]
      exact hepoch
    · rw [hjoint]
      exact hserial
    · rw [hothers k hk, s.giveUp_edgesAlone p k]
      exact ⟨rfl, rfl, rfl, rfl, rfl, rfl, rfl⟩

end Sys2Proof.Machine

/-! Supply interruption and the starts (chapter 11). -/

namespace Sys2Proof.Machine

/-! ### SUPPLY_FALLING and RETENTION_LOSS (O58) -/

/-- An assembler at the assertion of supply-falling is DISABLED or awaits its marker (R17). -/
theorem Assembler.interrupt_eq (a : Assembler) :
    a.interrupt = { a with state := if a.state = .disabled then .disabled else .awaiting } := by
  obtain ⟨state, bank0, bank1, filling, next⟩ := a
  cases state <;> rfl

/-- Settles O58. -/
theorem supplyFallingInterruptsOnce : Obligations.SupplyFallingInterruptsOnce := by
  refine fun s => ⟨fun hi => if_pos hi, fun hi => ⟨_, if_neg (by simp [hi]), rfl, fun n => ?_, fun i => ?_, rfl, rfl, rfl,
    rfl, rfl, rfl, rfl, rfl⟩, rfl⟩
  · exact State.mapAccounts_account _ Account.interrupt n
  · rw [← Assembler.interrupt_eq]
    exact PerIncomer.get_map Assembler.interrupt s.assemblers i

/-! ### Power-on resets (O59) -/

theorem Account.warm_eq (mark : Bool) (a : Account) : a.warm mark = { a with
    header := { a.header with
      timeSuspect := true, freeRunning := true
      interruptions := if mark then a.header.interruptions else min 65535 (a.header.interruptions + 1) }
    timerDue := false } := by
  cases mark <;> rfl

theorem State.reset_port (p : Port) : State.reset.port p = PortState.start true false .high := by cases p <;> rfl

theorem State.start_assembler (s : State) (cold : Bool) (accounts : Vector (Option Account) 24) (t : Table) (epoch : Count)
    (serial : Word) (second : Count) (band : BitVec 3) (i : Incomer) :
    (s.start cold accounts t epoch serial second band).assembler i = Assembler.initial (t.enabled.get i) := by
  cases i <;> rfl

/-- Settles O59. -/
theorem powerOnResetStartsWarmOrCold : Obligations.PowerOnResetStartsWarmOrCold := by
  refine fun s => ⟨fun hv => ⟨s.warmStart, if_pos hv, fun n => ?_, rfl, rfl, fun i => ?_, fun i => ?_, fun p => ?_, rfl, rfl,
    rfl, rfl, rfl, rfl, rfl⟩, fun hv => ⟨s.coldStart, if_neg (by simp [hv]), fun p => ?_, rfl⟩⟩
  · rw [State.warmStart_account]
    exact Option.map_congr fun a _ => a.warm_eq _
  · rw [State.warmStart, State.start_assembler]
    rfl
  · rw [State.warmStart, State.start_assembler]
    exact ⟨rfl, rfl, rfl, rfl⟩
  · rw [State.warmStart, State.start_port, State.reset_port, ← ChipSelect.cut_eq]
    rfl
  · rw [State.coldStart, State.start_port, State.reset_port, ← ChipSelect.cut_eq]
    rfl

end Sys2Proof.Machine

/-! Reads of accounts and their bins (10.2, 10.7, R143 to R147, R173, R175, R176): the words of a bin, and the events of an
ACCOUNT and of a BINS read. -/

namespace Sys2Proof.Machine

/-! ### Words of numbers and bins (R175, R176) -/

theorem wordsOf_length (k n : Nat) : (wordsOf k n).length = k := by
  induction k with
  | zero => rfl
  | succ k ih => rw [wordsOf, List.length_cons, ih]

/-- The words of a number, shifted in after `acc`, spell its lowest digits (10.7). -/
theorem foldl_wordsOf (k n acc : Nat) :
    (wordsOf k n).foldl (fun a d => a * 65536 + d.toNat) acc = acc * 65536 ^ k + n % 65536 ^ k := by
  induction k generalizing acc with
  | zero => simp [wordsOf, Nat.mod_one]
  | succ k ih =>
    rw [wordsOf, List.foldl_cons, ih, BitVec.toNat_ofNat, pow_succ 65536 k, Nat.mod_mul]
    ring

theorem natOfWords_wordsOf {k n : Nat} (h : n < 65536 ^ k) :
    (wordsOf k n).foldl (fun a d => a * 65536 + d.toNat) 0 = n := by
  rw [foldl_wordsOf, Nat.zero_mul, Nat.zero_add, Nat.mod_eq_of_lt h]

theorem plainWords_word (ws : List Word) : (plainWords ws).map (·.word) = ws := by
  rw [plainWords, List.map_map]
  exact List.map_id ws

theorem plainWords_saturated {ws : List Word} {v : OutWord} (h : v ∈ plainWords ws) : v.saturated = false := by
  obtain ⟨w, _, rfl⟩ := List.mem_map.mp h
  rfl

theorem binWords_length (f : Format) (k : Nat) (pinned : Bool) (value : Nat) :
    (binWords f k pinned value).length = binWidth f := by
  cases f <;> simp [binWords, binWidth, wordsOf_length]

theorem pinned_toNat_le (b : Bool) : b.toNat ≤ 1 := by cases b <;> decide

/-- A bin in a readout format (R175, R176). -/
theorem binWords_shown (f : Format) (k : Nat) (pinned : Bool) {value : Nat} (h : value < 2 ^ 63) :
    BinShown f k pinned value (binWords f k pinned value) := by
  have hpin := pinned_toNat_le pinned
  rintro shown rfl
  refine ⟨?_, ?_, ?_⟩
  · rintro rfl
    refine ⟨binWords_length .full k pinned value, ?_, fun v hv => plainWords_saturated hv⟩
    have hwords : (binWords .full k pinned value).map (·.word) = wordsOf 4 (pinned.toNat * 2 ^ 63 + value) :=
      plainWords_word _
    rw [hwords, natOfWords_wordsOf (by omega)]
  · rintro rfl
    refine ⟨binWords_length .whole k pinned value, ?_, fun v hv => plainWords_saturated hv⟩
    have hwords : (binWords .whole k pinned value).map (·.word) = wordsOf 3 (pinned.toNat * 2 ^ 47 + value / 65536) :=
      plainWords_word _
    rw [hwords, natOfWords_wordsOf (by omega)]
  · rintro rfl
    refine ⟨binWords_length .compact k pinned value, ?_, rfl⟩
    have hwords : (binWords .compact k pinned value).map (·.word) =
        wordsOf 2 (pinned.toNat * 2 ^ 31 + min (value / (65536 * 10 ^ k)) 2147483647) := rfl
    rw [hwords, natOfWords_wordsOf (by omega), min_comm]

theorem binWords_cons (f : Format) (k : Nat) (pinned : Bool) (value : Nat) :
    ∃ v vs, binWords f k pinned value = v :: vs := by cases f <;> exact ⟨_, _, rfl⟩

theorem maskedWords_cons (f : Format) : maskedWords f =
    { word := 0, saturated := false } :: List.replicate (binWidth f - 1) { word := 0, saturated := false } := by
  cases f <;> rfl

/-! ### The directory level (R143, R145) -/

theorem Account.permits_read {a : Account} {n : Nat} {p : Port} :
    a.permits n p .read = true ↔ p = ownerOf n ∨ a.rightOf n p ≠ .none := by simp [Account.permits]

theorem accountOf_eq (w : Word) : accountOf w = (w.extractLsb' 0 8).toNat := rfl

theorem heldIndex_account (w : Word) : heldIndex (accountOf w) = w.extractLsb' 0 8 := heldIndex_loByte w

/-- The fault of a read that fails the directory level (R145, R151). -/
theorem readFault_account (k : FaultKind) (w : Word) : readFault k (accountOf w) none =
    { kind := k, request := false, account := some (w.extractLsb' 0 8), entry := none } := by
  rw [readFault, heldIndex_account]
  rfl

theorem readFault_entry (k : FaultKind) (w : Word) (i : Nat) : readFault k (accountOf w) (some i) =
    { kind := k, request := false, account := some (w.extractLsb' 0 8), entry := some (BitVec.ofNat 8 (min i 255)) } := by
  rw [readFault, heldIndex_account]
  rfl

/-- The directory level fails for port `p` on the account that a head word names. -/
theorem State.directory_refused {s : State} {n : Nat} {p : Port}
    (h : s.account n = none ∨ ∃ a, s.account n = some a ∧ p ≠ ownerOf n ∧ a.rightOf n p = .none) :
    s.directory n p .read = some (if s.account n = none then .absentAccount else .rights) := by
  unfold State.directory
  obtain hnone | ⟨a, ha, howner, hright⟩ := h
  · simp [hnone]
  · have hdenied : ¬a.permits n p .read = true := by
      rw [Account.permits_read]
      exact not_or.mpr ⟨howner, not_not.mpr hright⟩
    simp [ha, hdenied]

theorem State.directory_passed {s : State} {n : Nat} {p : Port} {a : Account} (ha : s.account n = some a)
    (h : p = ownerOf n ∨ a.rightOf n p ≠ .none) : s.directory n p .read = none := by
  simp [State.directory, ha, Account.permits_read.mpr h]

/-! ### ACCOUNT reads (O52) -/

theorem binSetWords_length (bs : List Bool) : (binSetWords bs).length = 3 := by simp [binSetWords]

theorem tallyWords_length (free : Nat → Word) (at_ : Nat) (t : Tally) : (tallyWords free at_ t).length = 12 := by
  unfold tallyWords
  cases t.windows <;> simp [wordsOf_length, countWords]

theorem headerWords_length (free : Nat → Word) (at_ : Nat) (h : Header) : (headerWords free at_ h).length = 35 := by
  unfold headerWords
  cases h.epochs <;> simp [tallyWords_length, countWords]

theorem watchWords_length (hidden : Bool) (w : Watch) : (watchWords hidden w).length = 9 := by
  cases hidden <;> simp [watchWords, wordsOf_length]

theorem accountWords_length (free : Nat → Word) (n : Nat) (p : Port) (a : Account) :
    (accountWords free n p a).length = 102 := by
  have hsequence : ((a.ring.records.head?.map fun h => countWords h.header.sequence).getD [0, 0]).length = 2 := by
    cases a.ring.records.head? <;> rfl
  have hwatches : (a.watches.toList.flatMap fun w => watchWords (p != ownerOf n && a.hides w.bin) w).length = 36 := by
    simp [List.length_flatMap, watchWords_length]
  simp only [accountWords, List.length_append, hsequence, hwatches, headerWords_length, wordsOf_length, visibilityWords,
    binSetWords_length, List.length_map, List.length_range, List.length_cons, List.length_nil]

theorem State.accountHead_none {s : State} {w : Word} (h : s.account (accountOf w) = none) (p : Port) (r : Readout) :
    s.accountHead p r w = s.failHead p r .account w (readFault .absentAccount (accountOf w) none) := by
  simp [State.accountHead, h]

theorem State.accountHead_denied {s : State} {w : Word} {a : Account} {p : Port} (h : s.account (accountOf w) = some a)
    (hp : ¬a.permits (accountOf w) p .read = true) (r : Readout) :
    s.accountHead p r w = s.failHead p r .account w (readFault .rights (accountOf w) none) := by
  simp [State.accountHead, h, hp]

theorem State.accountHead_passed {s : State} {w : Word} {a : Account} {p : Port} (h : s.account (accountOf w) = some a)
    (hp : a.permits (accountOf w) p .read = true) (r : Readout) :
    s.accountHead p r w = s.drawn.enter p { Transaction.begin r .account w true with
      latch := plainWords (accountWords s.absent (accountOf w) p a) } := by
  simp [State.accountHead, h, hp]

/-- A head word that fails a check: what stands at the port (R146, R151). -/
theorem State.failHead_port (s : State) (p : Port) (r : Readout) (k : TxKind) (w : Word) (f : FaultInfo) :
    (s.failHead p r k w f).port p = { faultWritten (s.port p) f with
      transaction := some (Transaction.begin r k w false).fail, dataOut := 0xFFFF } := by
  rw [State.failHead_eq, State.setPort_port, if_pos rfl]

theorem faultWritten_content {x : PortState} (h : x.fault.content = none) (f : FaultInfo) :
    (faultWritten x f).fault.content = some f := by rw [faultWritten_fault, if_pos h]

/-- Settles O52. -/
theorem accountReadIsCheckedThenShifted : Obligations.AccountReadIsCheckedThenShifted := by
  intro s p w n hr hn
  refine ⟨fun ⟨hx, r, hs⟩ hk => ?_, fun x y hx hk hy => ?_⟩
  · have hexec : exec (.accountRead p (.head w)) s = .next (s.accountHead p r w) := next_head hr hx hs hk rfl
    have haccounts : (s.accountHead p r w).accounts = s.accounts := (s.accountHead_leaves {} p r w).accounts rfl
    change n = accountOf w at hn
    rw [hn]
    cases ha : s.account (accountOf w) with
    | none =>
      have hport := s.failHead_port p r .account w (readFault .absentAccount (accountOf w) none)
      rw [← State.accountHead_none ha, readFault_account] at hport
      refine ⟨_, _, hexec, by rw [hport], by rw [hport], haccounts, fun _ => ⟨rfl, fun hfree => ?_⟩, by rintro _ ⟨⟩⟩
      rw [hport]
      exact faultWritten_content hfree _
    | some a =>
      by_cases hp : a.permits (accountOf w) p .read = true
      · obtain ⟨y, hy⟩ : ∃ y, y = { Transaction.begin r .account w true with
            latch := plainWords (accountWords s.absent (accountOf w) p a) } := ⟨_, rfl⟩
        have hport : (s.accountHead p r w).port p = { s.port p with transaction := some y, dataOut := 0xFFFF } := by
          rw [State.accountHead_passed ha hp, State.enter, State.updPort_port, if_pos rfl, ← hy]
          rfl
        refine ⟨_, y, hexec, by rw [hport], by rw [hport], haccounts, by rintro ⟨⟩, fun b hb => ?_⟩
        cases hb
        rw [Account.permits_read] at hp
        refine ⟨fun howner hright => absurd hp (not_or.mpr ⟨howner, not_not.mpr hright⟩), fun _ => ?_⟩
        rw [hport, hy]
        refine ⟨rfl, rfl, rfl, rfl, plainWords_word _, ?_⟩
        rw [plainWords, List.length_map, accountWords_length]
      · have hport := s.failHead_port p r .account w (readFault .rights (accountOf w) none)
        rw [← State.accountHead_denied ha hp, readFault_account] at hport
        refine ⟨_, _, hexec, by rw [hport], by rw [hport], haccounts, by rintro ⟨⟩, fun b hb => ?_⟩
        cases hb
        refine ⟨fun _ _ => ⟨rfl, fun hfree => ?_⟩, fun hmay => absurd (Account.permits_read.mpr hmay) hp⟩
        rw [hport]
        exact faultWritten_content hfree _
  · obtain ⟨hzeros, hword, hpast⟩ := s.readItem_moved p x y hy
    exact ⟨fun hz => next_word hr hx hk (hzeros hz), fun hz v hv hsat => next_word hr hx hk (hword hz v hv hsat),
      fun hz hv => next_word hr hx hk (hpast hz hv)⟩

/-! ### BINS and HISTORY reads (O55) -/

theorem State.entryHead_refused {s : State} {w : Word} {p : Port} (h : s.account (accountOf w) = none
      ∨ ∃ a, s.account (accountOf w) = some a ∧ p ≠ ownerOf (accountOf w) ∧ a.rightOf (accountOf w) p = .none)
    (k : TxKind) (r : Readout) : s.entryHead p k r w = s.setPort p { faultWritten (s.port p)
      { kind := if s.account (accountOf w) = none then .absentAccount else .rights, request := false,
        account := some (w.extractLsb' 0 8), entry := none } with
      transaction := some (Transaction.begin r k w false).fail, dataOut := 0xFFFF } := by
  rw [State.entryHead, State.directory_refused h]
  simp only
  rw [State.failHead_eq, readFault_account]

theorem State.entryHead_passed {s : State} {w : Word} {p : Port} {a : Account} (ha : s.account (accountOf w) = some a)
    (h : p = ownerOf (accountOf w) ∨ a.rightOf (accountOf w) p ≠ .none) (k : TxKind) (r : Readout) :
    s.entryHead p k r w =
      s.setPort p { s.port p with transaction := some (Transaction.begin r k w true), dataOut := 0xFFFF } := by
  rw [State.entryHead, State.directory_passed ha h]
  rfl

theorem Transaction.begin_newlyOpen {x : PortState} {r : Readout} (h : x.select = .low r) (k : TxKind) (w : Word) :
    NewlyOpen x (Transaction.begin r k w true) k w :=
  ⟨rfl, rfl, rfl, rfl, rfl, rfl, rfl, rfl, rfl, rfl, h, rfl, nofun⟩

/-- The head words of BINS and HISTORY reads (R145). -/
theorem entryHead_answers {s : State} {p : Port} {w : Word} {k : TxKind} {c : TxEvent → Instr}
    (hr : (s.port p).resetAsserted = false) (hawaits : AwaitsHead (s.port p)) (hrow : rowOf p w = k)
    {word : Transaction → Word → State} {rise : Transaction → State}
    (hc : exec (c (.head w)) s = .next (s.transact p k (.head w) (s.entryHead p k) word rise)) :
    ((s.account (accountOf w) = none
        ∨ ∃ a, s.account (accountOf w) = some a ∧ p ≠ ownerOf (accountOf w) ∧ a.rightOf (accountOf w) p = .none) →
        ∃ y, exec (c (.head w)) s = .next (s.setPort p { faultWritten (s.port p)
              { kind := if s.account (accountOf w) = none then .absentAccount else .rights, request := false,
                account := some (w.extractLsb' 0 8), entry := none } with
            transaction := some y, dataOut := 0xFFFF })
          ∧ y.kind = k ∧ y.head = w ∧ y.zeros = true ∧ y.opened = false)
      ∧ ∀ a, s.account (accountOf w) = some a → (p = ownerOf (accountOf w) ∨ a.rightOf (accountOf w) p ≠ .none) →
          ∃ y, exec (c (.head w)) s = .next (s.setPort p { s.port p with transaction := some y, dataOut := 0xFFFF })
            ∧ NewlyOpen (s.port p) y k w ∧ y.latch = [] := by
  obtain ⟨hx, r, hs⟩ := hawaits
  refine ⟨fun hdenied => ⟨_, hc.trans (next_head hr hx hs hrow (State.entryHead_refused hdenied k r)), rfl, rfl, rfl, rfl⟩,
    fun a ha hmay => ⟨_, hc.trans (next_head hr hx hs hrow (State.entryHead_passed ha hmay k r)),
      Transaction.begin_newlyOpen hs k w, rfl⟩⟩

/-! #### The words of a BINS read -/

theorem State.binsWord_zeros {s : State} {p : Port} {x : Transaction} (h : x.zeros = true) (w : Word) :
    s.binsWord p x w = s.shiftZero p x := if_pos h

theorem State.binsWord_offset {s : State} {p : Port} {x : Transaction} (hz : x.zeros = false) (ho : x.offset = none)
    (w : Word) : s.binsWord p x w = s.binsOffset p x w := by simp [State.binsWord, hz, ho]

theorem State.binsWord_first {s : State} {p : Port} {x : Transaction} (hz : x.zeros = false) (ho : x.offset ≠ none)
    (hl : x.latch = []) (hp : x.past = false) (w : Word) : s.binsWord p x w = s.binFirst p x := by
  simp [State.binsWord, hz, ho, hl, hp]

theorem State.binsWord_next {s : State} {p : Port} {x : Transaction} (hz : x.zeros = false) (ho : x.offset ≠ none)
    (hl : x.latch ≠ []) (w : Word) : s.binsWord p x w = s.pop p (s.binsOn x) := by
  simp [State.binsWord, hz, ho, hl]

theorem State.binFirst_none {s : State} {p : Port} {x : Transaction} (h : s.account (accountOf x.head) = none) :
    s.binFirst p x = s.failEntry p x (readFault .absentAccount (accountOf x.head) none) := by simp [State.binFirst, h]

theorem State.binFirst_denied {s : State} {p : Port} {x : Transaction} {a : Account}
    (h : s.account (accountOf x.head) = some a) (hp : a.permits (accountOf x.head) p .read = false) :
    s.binFirst p x = s.failEntry p x (readFault .rights (accountOf x.head) none) := by simp [State.binFirst, h, hp]

theorem State.binFirst_past {s : State} {p : Port} {x : Transaction} {a : Account}
    (h : s.account (accountOf x.head) = some a) (hp : a.permits (accountOf x.head) p .read = true)
    (hb : a.bins[x.entry]? = none) : s.binFirst p x = s.shiftPast p { x with past := true } := by
  simp only [State.binFirst, h, hp, hb]
  rfl

/-- The transaction once the first word of a bin has been found (R173). -/
def Transaction.onBin (x : Transaction) (a : Account) : Transaction :=
  { x with entry := x.entry + 1, past := decide (a.bins.length ≤ x.entry + 1) }

theorem State.binFirst_shown {s : State} {p : Port} {x : Transaction} {a : Account} {b : Bin}
    (h : s.account (accountOf x.head) = some a) (hp : a.permits (accountOf x.head) p .read = true)
    (hb : a.bins[x.entry]? = some b) (hopen : ¬(p ≠ ownerOf (accountOf x.head) ∧ b.ownerOnly = true)) :
    s.binFirst p x = s.pop p { x.onBin a with latch := binWords x.format x.exponent b.pinned b.value } := by
  have hvisible : (b.ownerOnly && p != ownerOf (accountOf x.head)) = false := by
    rw [← Bool.not_eq_true, Bool.and_eq_true, bne_iff_ne]
    exact fun ⟨ho, hne⟩ => hopen ⟨hne, ho⟩
  simp only [State.binFirst, h, hp, hb, hvisible]
  rfl

theorem State.binFirst_masked {s : State} {p : Port} {x : Transaction} {a : Account} {b : Bin}
    (h : s.account (accountOf x.head) = some a) (hp : a.permits (accountOf x.head) p .read = true)
    (hb : a.bins[x.entry]? = some b) (hclosed : p ≠ ownerOf (accountOf x.head) ∧ b.ownerOnly = true) :
    s.binFirst p x = (s.txFault p x (readFault .rights (accountOf x.head) (some x.entry))).pop p
      { x.onBin a with latch := maskedWords x.format, faulted := true } := by
  have hhidden : (b.ownerOnly && p != ownerOf (accountOf x.head)) = true := by
    rw [Bool.and_eq_true, bne_iff_ne]
    exact ⟨hclosed.2, hclosed.1⟩
  simp only [State.binFirst, h, hp, hb, hhidden]
  rfl

/-- Whether the pointer is past the last bin after a further word of a bin (R173; log entry 31). -/
theorem State.binsOn_past {s : State} {x : Transaction} {v : OutWord} {vs : List OutWord} (hl : x.latch = v :: vs) {z : Bool}
    (hz : z = true ↔ x.past = true ∧ (vs = [] → ∀ a, s.account (accountOf x.head) = some a → a.bins.length ≤ x.entry)) :
    s.binsOn x = { x with past := z } := by
  have hlength : x.latch.length ≤ 1 ↔ vs = [] := by
    rw [hl, List.length_cons, ← List.length_eq_zero_iff]
    omega
  have hpast {z' : Bool} (h : z' = true ↔ z = true) : z' = z := Bool.eq_iff_iff.mpr h
  unfold State.binsOn
  cases ha : s.account (accountOf x.head) with
  | none =>
    simp only
    rw [← hpast (z' := x.past) (by simp [hz, ha])]
  | some a =>
    simp only
    split
    · rename_i hlast
      rw [hpast (z' := x.past && decide (a.bins.length ≤ x.entry))]
      rw [hz, Bool.and_eq_true, decide_eq_true_eq]
      simp [hlength.mp hlast, ha]
    · rename_i hmore
      rw [← hpast (z' := x.past)]
      rw [hz]
      simp [mt hlength.mpr hmore]

/-- Settles O55. -/
theorem binsReadChecksEachBin : Obligations.BinsReadChecksEachBin := by
  refine ⟨fun s p w n k c hr hawaits hk hrow hc hn => ?_, fun s p x w n hr hx hk hn moved hmoved => ?_⟩
  · change n = accountOf w at hn
    subst hn hc
    obtain rfl | rfl := hk
    · exact entryHead_answers (c := Instr.binsRead p) hr hawaits hrow rfl
    · exact entryHead_answers (c := Instr.ringWalk p) hr hawaits hrow rfl
  · change n = accountOf x.head at hn
    change moved = Transaction.step at hmoved
    subst hn hmoved
    have answers {t : State} (h : s.binsWord p x w = t) : exec (.binsRead p (.word w)) s = .next t :=
      next_word hr hx hk h
    refine ⟨fun hz => answers (State.binsWord_zeros hz w), fun hz ho => ⟨fun hin => answers ?_, fun hpast => answers ?_⟩,
      fun hz ho hl => ⟨fun hp => answers ?_, fun hp => ⟨fun hdenied => answers ?_, fun a ha hmay => ⟨fun hb => answers ?_,
        fun b y hb hy => ⟨fun hclosed => answers ?_, fun hopen hvalue => ?_⟩⟩⟩⟩, fun hz ho v vs z hl hpast => answers ?_⟩
    · have hnot : ¬s.pastBins (accountOf x.head) w.toNat = true := by
        rw [State.pastBins_iff]
        rintro ⟨a, ha, hle⟩
        exact absurd (hin a ha) (Nat.not_lt.mpr hle)
      rw [State.binsWord_offset hz ho, State.binsOffset, if_neg hnot, State.shift_eq]
    · rw [State.binsWord_offset hz ho, State.binsOffset, if_pos ((State.pastBins_iff _ _ _).mpr hpast), State.failOffset,
        State.txFault_shift, readFault_entry]
      rfl
    · rw [State.binsWord_past w hz ho hl hp, State.shiftPast_eq]
    · rw [State.binsWord_first hz ho hl hp]
      obtain hnone | ⟨a, ha, howner, hright⟩ := hdenied
      · rw [State.binFirst_none hnone, State.failEntry_eq, readFault_account, if_pos hnone]
        rfl
      · have hno : a.permits (accountOf x.head) p .read = false := by
          rw [← Bool.not_eq_true, Account.permits_read]
          exact not_or.mpr ⟨howner, not_not.mpr hright⟩
        have hsome : s.account (accountOf x.head) ≠ none := by rw [ha]; nofun
        rw [State.binFirst_denied ha hno, State.failEntry_eq, readFault_account, if_neg hsome]
        rfl
    · rw [State.binsWord_first hz ho hl hp, State.binFirst_past ha (Account.permits_read.mpr hmay) hb, State.shiftPast_eq]
    · rw [State.binsWord_first hz ho hl hp, State.binFirst_masked ha (Account.permits_read.mpr hmay) hb hclosed,
        State.pop_cons (maskedWords_cons x.format), State.txFault_eq, State.setPort_setPort, State.setPort_port,
        if_pos rfl, wordOut_unsaturated rfl, readFault_entry, hy]
      rfl
    · obtain ⟨v, vs, hwords⟩ := binWords_cons x.format x.exponent b.pinned b.value
      refine ⟨v, vs, hwords ▸ binWords_shown _ _ _ hvalue, answers ?_⟩
      rw [State.binsWord_first hz ho hl hp, State.binFirst_shown ha (Account.permits_read.mpr hmay) hb hopen,
        State.pop_cons hwords, hy]
      rfl
    · rw [State.binsWord_next hz ho (by rw [hl]; nofun), State.binsOn_past hl hpast,
        State.pop_cons (t := { x with past := z }) hl]

end Sys2Proof.Machine

/-! Ring walks and FREEZE reads (6.7, 9.6, R125, R126, R149, R165, R166): the words of a record and of a copy, and the events
of their reads. -/

namespace Sys2Proof.Machine

/-! ### The words of a record (R121, R126, R147) -/

/-- The words of one element among those of a list, each element taking `w` of them. -/
theorem flatMap_slice {α β : Type} {f : α → List β} {w : Nat} (hw : ∀ a, (f a).length = w) {l : List α} {i : Nat} {a : α}
    (h : l[i]? = some a) : ((l.flatMap f).drop (w * i)).take w = f a := by
  induction l generalizing i with
  | nil => cases h
  | cons x xs ih =>
    rw [List.flatMap_cons]
    cases i with
    | zero =>
      obtain rfl : x = a := by simpa using h
      rw [Nat.mul_zero, List.drop_zero, List.take_left' (hw _)]
    | succ i =>
      have hdrop : w * (i + 1) = (f x).length + w * i := by rw [hw, Nat.mul_succ, Nat.add_comm]
      rw [hdrop, List.drop_length_add_append]
      exact ih (by simpa using h)

theorem maskedWords_length (f : Format) : (maskedWords f).length = binWidth f := List.length_replicate

theorem recordBin_length (f : Format) (k : Nat) (hidden : Nat → Bool) (vi : Nat × Nat) :
    (if hidden vi.2 then maskedWords f else binWords f k false vi.1).length = binWidth f := by
  split
  · exact maskedWords_length f
  · exact binWords_length f k false vi.1

theorem recordBinWords_length (f : Format) (k : Nat) (hidden : Nat → Bool) (values : List Nat) :
    (recordBinWords f k hidden values).length = binWidth f * values.length := by
  rw [recordBinWords, List.length_flatMap]
  simp [recordBin_length, Nat.mul_comm]

/-- The words of bin `i` of a record (R126, R147). -/
theorem recordBinWords_slice (f : Format) (k : Nat) (hidden : Nat → Bool) {values : List Nat} {i value : Nat}
    (h : values[i]? = some value) : ((recordBinWords f k hidden values).drop (binWidth f * i)).take (binWidth f) =
      if hidden i then maskedWords f else binWords f k false value := by
  have hi : values.zipIdx[i]? = some (value, i) := by simp [List.getElem?_zipIdx, h]
  exact flatMap_slice (recordBin_length f k hidden) hi

theorem recordWords_writing (free : Nat → Word) (f : Format) (k : Nat) (hidden : Nat → Bool) {h : HistoryRecord}
    (hw : h.writing = true) : recordWords free f k hidden h = { word := 0x8000, saturated := false } ::
      plainWords ([0, 0] ++ countWords h.header.sequence ++ List.replicate 33 0) := if_pos hw

/-- The words of a STORED record after its first, up to its bins (R121, R126). -/
def storedWords (free : Nat → Word) (h : HistoryRecord) : List OutWord :=
  plainWords (countWords h.endSecond ++ headerWords free 3 h.header)

theorem storedWords_length (free : Nat → Word) (h : HistoryRecord) : (storedWords free h).length = 37 := by
  simp [storedWords, plainWords, countWords, headerWords_length]

theorem recordWords_stored (free : Nat → Word) (f : Format) (k : Nat) (hidden : Nat → Bool) {h : HistoryRecord}
    (hw : h.writing = false) : recordWords free f k hidden h =
      { word := fieldAt 13 (closeCauseCode h.cause) ||| fieldAt 0 h.values.length, saturated := false } ::
        (storedWords free h ++ recordBinWords f k hidden h.values) := if_neg (by simp [hw])

theorem recordWords_cons (free : Nat → Word) (f : Format) (k : Nat) (hidden : Nat → Bool) (h : HistoryRecord) :
    ∃ v vs, recordWords free f k hidden h = v :: vs := by
  cases hw : h.writing
  · exact ⟨_, _, recordWords_stored free f k hidden hw⟩
  · exact ⟨_, _, recordWords_writing free f k hidden hw⟩

theorem storedRecord_length (free : Nat → Word) (f : Format) (k : Nat) (hidden : Nat → Bool) (h : HistoryRecord) :
    (storedWords free h ++ recordBinWords f k hidden h.values).length = 37 + binWidth f * h.values.length := by
  rw [List.length_append, storedWords_length, recordBinWords_length]

/-- The words of bin `i` among the words of a STORED record after its first. -/
theorem storedWords_slice (free : Nat → Word) (f : Format) (k : Nat) (hidden : Nat → Bool) {h : HistoryRecord}
    {i value : Nat} (hv : h.values[i]? = some value) :
    ((storedWords free h ++ recordBinWords f k hidden h.values).drop (37 + binWidth f * i)).take (binWidth f) =
      if hidden i then maskedWords f else binWords f k false value := by
  rw [← storedWords_length free h, List.drop_length_add_append, recordBinWords_slice f k hidden hv]

/-! ### Ring walks (O53) -/

theorem State.recordsOf_some {s : State} {n : Nat} {a : Account} (h : s.account n = some a) :
    s.recordsOf n = a.ring.records := by simp [State.recordsOf, h]

theorem State.recordsOf_none {s : State} {n : Nat} (h : s.account n = none) : s.recordsOf n = [] := by
  simp [State.recordsOf, h]

theorem State.walkWord_offset {s : State} {p : Port} {x : Transaction} (hz : x.zeros = false) (ho : x.offset = none)
    (w : Word) : s.walkWord p x w = s.walkOffset p x w := by simp [State.walkWord, hz, ho]

theorem State.walkWord_first {s : State} {p : Port} {x : Transaction} (hz : x.zeros = false) (ho : x.offset ≠ none)
    (hl : x.latch = []) (w : Word) : s.walkWord p x w = s.walkFirst p x := by simp [State.walkWord, hz, ho, hl]

theorem State.walkWord_next {s : State} {p : Port} {x : Transaction} (hz : x.zeros = false) (ho : x.offset ≠ none)
    (hl : x.latch ≠ []) (w : Word) : s.walkWord p x w = s.pop p (s.walkOn x) := by simp [State.walkWord, hz, ho, hl]

theorem State.walkOffset_some {s : State} {p : Port} {x : Transaction} {w : Word} {h : HistoryRecord}
    (hh : (s.recordsOf (accountOf x.head))[w.toNat]? = some h) : s.walkOffset p x w =
      s.shift p { x with offset := some w, seek := some h.header.sequence } 0 := by simp [State.walkOffset, hh]

theorem State.walkOffset_none {s : State} {p : Port} {x : Transaction} {w : Word}
    (hh : (s.recordsOf (accountOf x.head))[w.toNat]? = none) : s.walkOffset p x w = s.failOffset p x w := by
  simp [State.walkOffset, hh]

theorem State.walkFirst_end {s : State} {p : Port} {x : Transaction} (h : x.seek = none) :
    s.walkFirst p x = s.shiftPast p x := by simp [State.walkFirst, h]

/-- The first word of a record of a walk that fails the directory level (R145, R146). -/
theorem State.walkFirst_denied {s : State} {p : Port} {x : Transaction} {q : Count} (hq : x.seek = some q)
    (h : s.account (accountOf x.head) = none ∨ ∃ a, s.account (accountOf x.head) = some a
      ∧ p ≠ ownerOf (accountOf x.head) ∧ a.rightOf (accountOf x.head) p = .none) :
    s.walkFirst p x = s.failEntry p x
      { kind := if s.account (accountOf x.head) = none then .absentAccount else .rights, request := false,
        account := some (x.head.extractLsb' 0 8), entry := none } := by
  obtain hnone | ⟨a, ha, howner, hright⟩ := h
  · rw [if_pos hnone, ← readFault_account]
    simp only [State.walkFirst, hq, hnone]
  · have hno : a.permits (accountOf x.head) p .read = false := by
      rw [← Bool.not_eq_true, Account.permits_read]
      exact not_or.mpr ⟨howner, not_not.mpr hright⟩
    have hsome : s.account (accountOf x.head) ≠ none := by rw [ha]; nofun
    rw [if_neg hsome, ← readFault_account]
    simp only [State.walkFirst, hq, ha, hno]
    rfl

theorem State.walkFirst_past {s : State} {p : Port} {x : Transaction} {q : Count} {a : Account} (hq : x.seek = some q)
    (ha : s.account (accountOf x.head) = some a) (hp : a.permits (accountOf x.head) p .read = true)
    (hr : reach a.ring.records q = none) : s.walkFirst p x = s.shiftPast p { x with seek := none } := by
  simp only [State.walkFirst, hq, ha, hp, hr]
  rfl

/-- The words of the record that a walk latches for port `p` (R125, R126, R147). -/
def walkedWords (x : Transaction) (p : Port) (a : Account) (h : HistoryRecord) : List OutWord :=
  recordWords (Config.absentRecordWord (accountOf x.head) h.header.sequence h.endSecond) x.format x.exponent
    (fun i => p != ownerOf (accountOf x.head) && a.hides i) h

theorem State.walkFirst_reached {s : State} {p : Port} {x : Transaction} {q : Count} {a : Account} {h : HistoryRecord}
    (hq : x.seek = some q) (ha : s.account (accountOf x.head) = some a)
    (hp : a.permits (accountOf x.head) p .read = true) (hr : reach a.ring.records q = some h) :
    s.walkFirst p x = s.pop p { x with
      latch := walkedWords x p a h
      seek := if h.writing then none else some (h.header.sequence + 1) } := by
  simp only [State.walkFirst, hq, ha, hp, hr]
  rfl

/-- Inside a record a walk keeps the sequence it seeks (R125). -/
theorem State.walkOn_seek_inside {s : State} {x : Transaction} {v : OutWord} {vs : List OutWord} (hl : x.latch = v :: vs)
    (hvs : vs ≠ []) : (s.walkOn x).seek = x.seek := by
  have hlength : ¬x.latch.length ≤ 1 := by
    rw [hl, List.length_cons]
    have := List.length_pos_iff.mpr hvs
    omega
  rw [State.walkOn, if_neg hlength]

/-- After the last word of a record a walk goes on while a record follows (R125). -/
theorem State.walkOn_seek_last {s : State} {x : Transaction} {v : OutWord} {q : Count} {a : Account} (hl : x.latch = [v])
    (hq : x.seek = some q) (ha : s.account (accountOf x.head) = some a) : (s.walkOn x).seek =
      if a.ring.records.any (fun h => decide ((h.header.sequence - q).toNat < 2 ^ 31)) then some q else none := by
  have hreach : (reach a.ring.records q).isSome =
      a.ring.records.any fun h => decide ((h.header.sequence - q).toNat < 2 ^ 31) := List.isSome_find?
  rw [State.walkOn, if_pos (by rw [hl]; exact le_rfl)]
  simp only [hq, Option.bind_some, State.recordsOf_some ha, hreach]

/-- Settles O53. -/
theorem ringWalkSeeksTheNextRecord : Obligations.RingWalkSeeksTheNextRecord := by
  intro s p x w n hr hx hk hz hn
  change n = accountOf x.head at hn
  subst hn
  have answers {t : State} (h : s.walkWord p x w = t) : exec (.ringWalk p (.word w)) s = .next t := next_word hr hx hk h
  refine ⟨fun ho => ⟨fun a h ha hh => answers ?_, fun hnone => ?_⟩, fun o ho => ?_⟩
  · rw [State.walkWord_offset hz ho, State.walkOffset_some (by rw [State.recordsOf_some ha, hh]), State.shift_eq]
  · have hrecords : (s.recordsOf (accountOf x.head))[w.toNat]? = none := by
      obtain hnone | ⟨a, ha, hnone⟩ := hnone
      · rw [State.recordsOf_none hnone]
        rfl
      · rw [State.recordsOf_some ha, hnone]
    have hfail : s.walkWord p x w = s.setPort p { (if x.faulted then s.port p else faultWritten (s.port p)
        { kind := .absentEntry, request := false, account := some (x.head.extractLsb' 0 8),
          entry := some (BitVec.ofNat 8 (min w.toNat 255)) }) with
        transaction := some { x.fail with offset := some w }, dataOut := 0 } := by
      rw [State.walkWord_offset hz ho, State.walkOffset_none hrecords, State.failOffset, State.txFault_shift,
        readFault_entry]
    refine ⟨_, { x.fail with offset := some w }, answers hfail, ?_, rfl, ?_, rfl, fun hfaulted hfree => ?_⟩
    · rw [State.setPort_port, if_pos rfl]
    · rw [State.setPort_port, if_pos rfl]
    · rw [State.setPort_port, if_pos rfl, hfaulted]
      exact faultWritten_content hfree _
  · have hsome : x.offset ≠ none := by rw [ho]; nofun
    refine ⟨fun v vs hl => ?_, fun hl hseek => ?_, fun q hl hq => ⟨fun hdenied => ?_, fun a ha hmay => ?_⟩⟩
    · refine ⟨{ x with latch := vs, pointer := x.pointer + 1, moved := x.moved + 1, seek := (s.walkOn x).seek }, answers ?_, rfl,
        State.walkOn_seek_inside hl, fun hvs q hq a ha => State.walkOn_seek_last (hvs ▸ hl) hq ha⟩
      rw [State.walkWord_next hz hsome (by rw [hl]; nofun), State.walkOn_eq,
        State.pop_cons (t := { x with seek := (s.walkOn x).seek }) hl]
      rfl
    · refine ⟨_, answers (State.walkWord_first hz hsome hl w), ?_⟩
      rw [State.walkFirst_end hseek, State.shiftPast_eq, State.setPort_port, if_pos rfl]
      exact ⟨rfl, rfl⟩
    · obtain ⟨i, hi⟩ : ∃ i : FaultInfo, i = {
          kind := if s.account (accountOf x.head) = none then .absentAccount else .rights, request := false
          account := some (x.head.extractLsb' 0 8), entry := none } := ⟨_, rfl⟩
      have hport : (s.walkWord p x w).port p = { (if x.faulted then s.port p else faultWritten (s.port p) i) with
          transaction := some x.fail.step, dataOut := 0 } := by
        rw [State.walkWord_first hz hsome hl, State.walkFirst_denied hq hdenied, ← hi, State.failEntry_eq,
          State.setPort_port, if_pos rfl]
      refine ⟨_, x.fail.step, answers rfl, by rw [hport], rfl, rfl, by rw [hport], ?_, fun hfaulted hfree => ?_⟩
      · rw [hport]
        cases x.faulted <;> rfl
      · rw [hport, hfaulted, ← hi]
        exact faultWritten_content hfree i
    · have hp := Account.permits_read.mpr hmay
      cases hreach : reach a.ring.records q with
      | none =>
        have hword : s.walkWord p x w = s.shiftPast p { x with seek := none } := by
          rw [State.walkWord_first hz hsome hl, State.walkFirst_past hq ha hp hreach]
        rw [State.shiftPast_eq] at hword
        refine ⟨_, { x with seek := none }.step, answers hword, ?_, ?_, rfl, fun _ => ⟨rfl, ?_, ?_⟩, fun h hh =>
          nomatch hreach.symm.trans hh⟩
        all_goals rw [State.setPort_port, if_pos rfl]
      | some h =>
        have hword : s.walkWord p x w = s.pop p { x with
            latch := walkedWords x p a h, seek := if h.writing then none else some (h.header.sequence + 1) } := by
          rw [State.walkWord_first hz hsome hl, State.walkFirst_reached hq ha hp hreach]
        obtain ⟨v, vs, hlatch⟩ : ∃ v vs, walkedWords x p a h = v :: vs := recordWords_cons _ _ _ _ h
        rw [State.pop_cons hlatch] at hword
        obtain ⟨y, hy⟩ : ∃ y, y = Transaction.step { x with
          latch := vs, seek := if h.writing then none else some (h.header.sequence + 1) } := ⟨_, rfl⟩
        rw [← hy] at hword
        refine ⟨_, y, answers hword, ?_, ?_, rfl, fun hh => (nomatch hreach.symm.trans hh),
          fun h' hh => ?_⟩
        · rw [State.setPort_port, if_pos rfl]
          rfl
        · rw [State.setPort_port, if_pos rfl]
          rfl
        · cases hreach.symm.trans hh
          rw [State.setPort_port, if_pos rfl]
          refine ⟨fun hw => ?_, fun hw => ?_⟩
          · rw [walkedWords, recordWords_writing _ _ _ _ hw] at hlatch
            cases hlatch
            rw [hy, hw]
            exact ⟨rfl, rfl, plainWords_word _⟩
          · have hwords := hlatch
            rw [walkedWords, recordWords_stored _ _ _ _ hw] at hlatch
            cases hlatch
            rw [hy, hw]
            refine ⟨rfl, ⟨_, hwords.symm, rfl⟩, rfl, ?_, fun i value ws hvalue hlt hws => ?_⟩
            · exact storedRecord_length _ _ _ _ h
            · change ws = ((storedWords _ h ++ recordBinWords _ _ _ _).drop _).take _ at hws
              rw [storedWords_slice _ _ _ _ hvalue] at hws
              refine ⟨fun hopen => ?_, fun hclosed => ?_⟩
              · have hvisible : (p != ownerOf (accountOf x.head) && a.hides i) = false := by
                  obtain rfl | hi := hopen
                  · simp
                  · simp [hi]
                rw [hws, hvisible]
                exact binWords_shown _ _ _ hlt
              · have hhidden : (p != ownerOf (accountOf x.head) && a.hides i) = true := by
                  simpa using hclosed
                rw [hws, hhidden]
                rfl

/-! ### FREEZE reads (O54) -/

/-- The words of a copy from its third on, with the bins that are closed given (R166). -/
def copyContent (c : Copy) (closes : Nat → Bin → Bool) (f : Format) (k : Nat) : List OutWord :=
  plainWords (countWords c.second ++ visibilityWords c.bins ++ binSetWords (c.bins.map (·.pinned))
      ++ (c.body.map fun y => headerWords (Config.absentWord c.draw) 10 y.header).getD [])
    ++ c.bins.zipIdx.flatMap fun bi => if closes bi.2 bi.1 then maskedWords f else binWords f k false bi.1.value

/-- The two words of a copy that the timer, the mark and the waiting count stand in (R166). -/
def copyFront (s : State) (b : Fin 2) (h : Holding) : List Word :=
  [fieldAt 8 h.copy.account ||| fieldAt 7 b.val ||| fieldAt 5 h.copy.stateCode ||| fieldAt 3 (portCode (ownerOf h.copy.account))
      ||| bitAt 2 h.reclaimDue ||| fieldAt 0 s.freeze.waiting.length,
    fieldAt 8 h.copy.bins.length ||| fieldAt 0 (s.freeze.buffer b).timer]

theorem copyWords_eq (s : State) (b : Fin 2) (h : Holding) (p : Port) (f : Format) (k : Nat) :
    copyWords s b h p f k =
      plainWords (copyFront s b h) ++ copyContent h.copy (copyCloses s h.copy.account p) f k := by
  unfold copyWords copyContent copyFront
  simp only [List.append_assoc, plainWords, List.map_append]

theorem copyWords_content (s : State) (b : Fin 2) (h : Holding) (p : Port) (f : Format) (k : Nat) :
    (copyWords s b h p f k).drop 2 = copyContent h.copy (copyCloses s h.copy.account p) f k := by
  rw [copyWords_eq]
  rfl

theorem copyWords_cons (s : State) (b : Fin 2) (h : Holding) (p : Port) (f : Format) (k : Nat) :
    ∃ v vs, copyWords s b h p f k = v :: vs ∧ v.saturated = false := by
  rw [copyWords_eq]
  exact ⟨_, _, rfl, rfl⟩

theorem FreezeUnit.held_of_heldBy {u : FreezeUnit} {p : Port} {b : Fin 2} (h : u.heldBy p = some b) :
    ∃ g, (u.buffer b).held = some g ∧ g.holder = p := Buffer.holder_eq_some.mp (FreezeUnit.holder_of_heldBy h)

/-- The fault that the checks of R149 find. -/
theorem CopyRefused.eq_copyFault {s : State} {p : Port} {f : Option FaultInfo} (h : CopyRefused s p f) :
    f = s.copyFault p := by
  obtain ⟨hnot, hheld⟩ := h
  unfold State.copyFault
  cases hb : s.freeze.heldBy p with
  | none => exact hnot hb
  | some b =>
    obtain ⟨g, hg, _⟩ := FreezeUnit.held_of_heldBy hb
    obtain ⟨hpass, hrefuse⟩ := hheld b g hb hg
    simp only [hg]
    by_cases howner : p = ownerOf g.copy.account
    · rw [if_pos howner]
      exact hpass (.inl howner)
    · rw [if_neg howner]
      by_cases hmay : ∃ a, s.account g.copy.account = some a ∧ a.rightOf g.copy.account p ≠ .none
      · obtain ⟨a, ha, hright⟩ := hmay
        rw [hpass (.inr ⟨a, ha, hright⟩), State.directory_passed ha (.inr hright)]
        rfl
      · have hall : ∀ a, s.account g.copy.account = some a → a.rightOf g.copy.account p = .none := fun a ha => by
          by_contra hne
          exact hmay ⟨a, ha, hne⟩
        rw [hrefuse ⟨howner, hall⟩, State.directory_refused]
        · rfl
        · cases ha : s.account g.copy.account with
          | none => exact .inl rfl
          | some a => exact .inr ⟨a, rfl, howner, hall a ha⟩

theorem State.freezeHead_refused {s : State} {p : Port} {i : FaultInfo} (h : s.copyFault p = some i) (r : Readout)
    (w : Word) : s.freezeHead p r w = s.setPort p { faultWritten (s.port p) i with
      transaction := some (Transaction.begin r .freeze w false).fail, dataOut := 0xFFFF } := by
  rw [← State.failHead_eq]
  simp [State.freezeHead, h]

theorem State.freezeHead_passed {s : State} {p : Port} (h : s.copyFault p = none) (r : Readout) (w : Word) :
    s.freezeHead p r w =
      s.setPort p { s.port p with transaction := some (Transaction.begin r .freeze w true), dataOut := 0xFFFF } := by
  rw [← State.enter_eq]
  simp [State.freezeHead, h]

theorem State.freezeWord_zeros {s : State} {p : Port} {x : Transaction} (h : x.zeros = true) :
    s.freezeWord p x = s.shiftZero p x := if_pos h

theorem State.freezeWord_first {s : State} {p : Port} {x : Transaction} (hz : x.zeros = false) (he : x.entry = 0) :
    s.freezeWord p x = s.copyFirst p x := by simp [State.freezeWord, hz, he]

theorem State.freezeWord_next {s : State} {p : Port} {x : Transaction} (hz : x.zeros = false) (he : x.entry ≠ 0) :
    s.freezeWord p x = s.pop p x := by simp [State.freezeWord, hz, he]

theorem State.copyFirst_refused {s : State} {p : Port} {x : Transaction} {i : FaultInfo} (h : s.copyFault p = some i) :
    s.copyFirst p x = s.failEntry p x i := by simp [State.copyFirst, h]

theorem State.copyFirst_passed {s : State} {p : Port} {x : Transaction} {b : Fin 2} {h : Holding}
    (hf : s.copyFault p = none) (hb : s.freeze.heldBy p = some b) (hh : (s.freeze.buffer b).held = some h) :
    s.copyFirst p x = s.pop p { x with latch := copyWords s b h p x.format x.exponent, entry := 1 } := by
  simp [State.copyFirst, hf, State.heldWords, hb, hh]

/-! #### The end of a FREEZE read (R165) -/

theorem State.close_freezeReadOpen (s : State) (p : Port) : (s.close p).freezeReadOpen p = false := by
  rw [State.freezeReadOpen, State.close_port]
  rfl

theorem State.endFreezeRead_none {s : State} {p : Port} (h : s.freeze.heldBy p = none) :
    (s.close p).endFreezeRead p = s.close p := by
  have hclose : (s.close p).freeze.heldBy p = none := h
  simp [State.endFreezeRead, hclose]

theorem State.endFreezeRead_some {s : State} {p : Port} {b : Fin 2} (h : s.freeze.heldBy p = some b) :
    (s.close p).endFreezeRead p = (s.close p).settleReclaim b := by
  have hclose : (s.close p).freeze.heldBy p = some b := h
  simp [State.endFreezeRead, hclose]

theorem State.settleReclaim_unowed {s : State} {b : Fin 2} {h : Holding} (hheld : (s.freeze.buffer b).held = some h)
    (hdue : h.reclaimDue = false) : s.settleReclaim b = s := by simp [State.settleReclaim, hheld, hdue]

/-- Settles O54. -/
theorem freezeReadShowsTheHeldCopy : Obligations.FreezeReadShowsTheHeldCopy := by
  refine ⟨fun s u b c h g p f k hcopy hcloses => ?_, fun s p f hr hf => ?_⟩
  · have hfun : copyCloses u h.copy.account p = copyCloses s h.copy.account p := funext fun i => funext fun x => hcloses i x
    rw [copyWords_content, copyWords_content, hcopy, hfun]
  · have hfault := CopyRefused.eq_copyFault hf
    refine ⟨fun w ⟨hx, r, hs⟩ hk => ⟨fun i hi => ?_, fun b hb hnone hheld => ?_⟩, fun x hx hk => ⟨fun w moved hmoved => ?_,
      fun hb => next_rise hr hx hk (State.endFreezeRead_none hb), fun b h hb hh => ?_⟩⟩
    · exact ⟨_, next_head hr hx hs hk (State.freezeHead_refused (hfault.symm.trans hi) r w), rfl, rfl, rfl, rfl⟩
    · exact ⟨_, next_head hr hx hs hk (State.freezeHead_passed (hfault.symm.trans hnone) r w),
        Transaction.begin_newlyOpen hs _ w, rfl⟩
    · change moved = Transaction.step at hmoved
      subst hmoved
      have answers {t : State} (h : s.freezeWord p x = t) : exec (.freezeRead p (.word w)) s = .next t :=
        next_word hr hx hk h
      refine ⟨fun hz => answers (State.freezeWord_zeros hz), fun hz he => ⟨fun i hi => answers ?_, fun b h hb hh hnone => ?_⟩,
        fun hz he => ⟨fun v vs hl => answers ?_, fun hl => answers ?_⟩⟩
      · rw [State.freezeWord_first hz he, State.copyFirst_refused (hfault.symm.trans hi), State.failEntry_eq]
        rfl
      · obtain ⟨v, vs, hwords, hsat⟩ := copyWords_cons s b h p x.format x.exponent
        refine ⟨v, vs, hwords.symm, hsat, answers ?_⟩
        rw [State.freezeWord_first hz he, State.copyFirst_passed (hfault.symm.trans hnone) hb hh, State.pop_cons hwords,
          wordOut_unsaturated hsat]
      · rw [State.freezeWord_next hz he, State.pop_cons hl]
      · rw [State.freezeWord_next hz he, State.pop_nil hl]
    · have hrise : exec (.freezeRead p .rise) s = .next ((s.close p).settleReclaim b) :=
        next_rise hr hx hk (State.endFreezeRead_some hb)
      have hholder : h.holder = p := by
        obtain ⟨g, hg, hp⟩ := FreezeUnit.held_of_heldBy hb
        cases hh.symm.trans hg
        exact hp
      have hend := (s.close p).settleReclaim_edgesAlone b p
      have hleaves := ((s.close p).settleReclaim_freezeAndPorts b).leaves (f := { freeze := true }) rfl
      refine ⟨_, hrise, ?_, hleaves.accounts rfl, fun hdue => ?_, fun hdue m hm => ?_⟩
      · rw [hend, State.close_port]
      · rw [State.settleReclaim_unowed (s := s.close p) hh hdue]
        rfl
      · have hclosed : (s.close p).freezeReadOpen h.holder = false := hholder ▸ s.close_freezeReadOpen p
        obtain ⟨hempty, hpasses⟩ := State.settleReclaim_reclaimed (s := s.close p) hh hdue hclosed
        change m = (s.close p).unmarked b h at hm
        rw [hm]
        refine ⟨hempty, fun e rest he => ?_⟩
        have := hpasses e rest he
        rwa [hholder] at this

end Sys2Proof.Machine

/-! The head word and the JOINT items as bits (10.7): what is read word by word is what stands there. -/

namespace Sys2Proof.Machine

/-! ### The head word (R170 to R172) -/

theorem spaceOfBits_bitsOfSpace (x : Space) : spaceOfBits (bitsOfSpace x) = x := by cases x <;> rfl

theorem bitsOfSpace_spaceOfBits : ∀ b : BitVec 3, bitsOfSpace (spaceOfBits b) = b := by decide

theorem spaceOfBits_eq_iff {b : BitVec 3} {x : Space} : spaceOfBits b = x ↔ b = bitsOfSpace x :=
  ⟨fun h => by rw [← h, bitsOfSpace_spaceOfBits], fun h => by rw [h, spaceOfBits_bitsOfSpace]⟩

theorem decodeHead_encodeHead (h : HeadWord) : decodeHead (encodeHead h) = h := by
  obtain ⟨framing, write, space, item⟩ := h
  have hframing : (framing ++ BitVec.ofBool write ++ bitsOfSpace space ++ item).extractLsb' 12 4 = framing := by
    rw [BitVec.extractLsb'_append_eq_of_le (by decide), BitVec.extractLsb'_append_eq_of_le (by decide),
      BitVec.extractLsb'_append_eq_left]
  have hwrite : (framing ++ BitVec.ofBool write ++ bitsOfSpace space ++ item).getLsbD 11 = write := by
    rw [BitVec.getLsbD_append, BitVec.getLsbD_append, BitVec.getLsbD_append]
    simp
  have hspace : (framing ++ BitVec.ofBool write ++ bitsOfSpace space ++ item).extractLsb' 8 3 = bitsOfSpace space := by
    rw [BitVec.extractLsb'_append_eq_of_le (by decide), BitVec.extractLsb'_append_eq_right]
  have hitem : (framing ++ BitVec.ofBool write ++ bitsOfSpace space ++ item).extractLsb' 0 8 = item :=
    BitVec.extractLsb'_append_eq_right
  unfold decodeHead encodeHead
  rw [hframing, hwrite, hspace, spaceOfBits_bitsOfSpace, hitem]

theorem ofBool_getLsbD (w : Word) (k : Nat) : BitVec.ofBool (w.getLsbD k) = w.extractLsb' k 1 := by
  ext i hi
  obtain rfl : i = 0 := by omega
  simp

theorem encodeHead_decodeHead (w : Word) : encodeHead (decodeHead w) = w := by
  unfold decodeHead encodeHead
  dsimp only
  rw [bitsOfSpace_spaceOfBits, ofBool_getLsbD,
    BitVec.extractLsb'_append_extractLsb'_eq_extractLsb' (start₂ := 12) (start₁ := 11) (len₁ := 1) rfl,
    BitVec.extractLsb'_append_extractLsb'_eq_extractLsb' (start₂ := 11) (start₁ := 8) (len₁ := 3) rfl,
    BitVec.extractLsb'_append_extractLsb'_eq_extractLsb' (start₂ := 8) (start₁ := 0) (len₁ := 8) rfl]
  exact BitVec.extractLsb'_eq_self

/-! ### The words of a table (R67, R185) -/

/-- Words written one after another from word `k` of a table on. -/
def writeWords (u : Table) (k : Nat) (ws : List Word) : Table :=
  (ws.zipIdx k).foldl (fun d wk => writeTable d wk.2 wk.1) u

theorem writeWords_cons (u : Table) (k : Nat) (w : Word) (ws : List Word) :
    writeWords u k (w :: ws) = writeWords (writeTable u k w) (k + 1) ws := rfl

theorem writeWords_append (u : Table) (k : Nat) (xs ys : List Word) :
    writeWords u k (xs ++ ys) = writeWords (writeWords u k xs) (k + xs.length) ys := by
  simp [writeWords, List.zipIdx_append]

/-- Words written one after another, from place `k` on, into a vector that `set` writes. -/
def setWords {α : Type} {n : Nat} (set : Vector α n → Nat → Word → Vector α n) (m : Vector α n) (k : Nat)
    (ws : List Word) : Vector α n := (ws.zipIdx k).foldl (fun m wk => set m wk.2 wk.1) m

/-- A field of a table is written by the words from `off` on. -/
theorem writeWords_field {α : Type} {n off : Nat} {put : Vector α n → Table} {set : Vector α n → Nat → Word → Vector α n}
    {ws : List Word} {k : Nat}
    (h : ∀ m j w, j < k + ws.length → writeTable (put m) (off + j) w = put (set m j w)) (m : Vector α n) :
    writeWords (put m) (off + k) ws = put (setWords set m k ws) := by
  induction ws generalizing k m with
  | nil => rfl
  | cons w ws ih =>
    rw [List.length_cons] at h
    rw [writeWords_cons, h m k w (by omega)]
    exact ih (k := k + 1) (fun m j v hj => h m j v (by omega)) _

/-- Writing from place `k` on every place that holds some of `v` makes `v` of a vector that has the rest of it: element `i`
stands in the word of place `cell i`, which `get i` reads. -/
theorem setWords_getElem {α : Type} {n : Nat} {set : Vector α n → Nat → Word → Vector α n} {cell : Nat → Nat}
    {get : Nat → Word → α}
    (hset : ∀ m k w i (hi : i < n), (set m k w)[i] = if cell i = k then get i w else m[i])
    {ws : List Word} {k i : Nat} {m : Vector α n} (hi : i < n) {x : α}
    (hword : ∀ j (hj : j < ws.length), cell i = k + j → get i ws[j] = x)
    (hrest : cell i < k ∨ k + ws.length ≤ cell i → m[i] = x) : (setWords set m k ws)[i] = x := by
  induction ws generalizing k m with
  | nil => exact hrest (by rw [List.length_nil]; omega)
  | cons w ws ih =>
    refine ih (k := k + 1) (m := set m k w) (fun j hj hcell => ?_) fun hout => ?_
    · exact hword (j + 1) (Nat.succ_lt_succ hj) (by omega)
    · rw [hset m k w i hi]
      split
      · rename_i hcell
        exact hword 0 (Nat.succ_pos _) hcell
      · rename_i hcell
        exact hrest (by rw [List.length_cons]; omega)

theorem setWords_eq {α : Type} {n : Nat} {set : Vector α n → Nat → Word → Vector α n} {cell : Nat → Nat}
    {get : Nat → Word → α}
    (hset : ∀ m k w i (hi : i < n), (set m k w)[i] = if cell i = k then get i w else m[i])
    {ws : List Word} {v : Vector α n} (hcell : ∀ i < n, cell i < ws.length)
    (hword : ∀ i (hi : i < n) (hj : cell i < ws.length), get i ws[cell i] = v[i]) (m : Vector α n) :
    setWords set m 0 ws = v := by
  refine Vector.ext fun i hi => setWords_getElem hset hi (fun j hj hij => ?_) fun hout => ?_
  · obtain rfl : cell i = j := by omega
    exact hword i hi hj
  · have := hcell i hi
    omega

/-- A vector with one word for each element, which `get` reads. -/
theorem setWords_each {α : Type} {n : Nat} {get : Word → α} {f : α → Word} (hget : ∀ x, get (f x) = x) (v m : Vector α n) :
    setWords (fun m k w => m.setIfInBounds k (get w)) m 0 (v.toList.map f) = v := by
  refine setWords_eq (cell := id) (get := fun _ => get) (fun m k w i hi => ?_) (fun i hi => ?_) (fun i hi hj => ?_) m
  · rw [Vector.getElem_setIfInBounds hi]
    exact if_congr eq_comm rfl rfl
  · simpa using hi
  · simp [hget]

/-- A field of a table with one word for each element is written by its words. -/
theorem writeWords_each {α : Type} {n off : Nat} {put : Vector α n → Table} {get : Word → α} {f : α → Word}
    (hwrite : ∀ m j w, j < n → writeTable (put m) (off + j) w = put (m.setIfInBounds j (get w)))
    (hget : ∀ x, get (f x) = x) (v m : Vector α n) : writeWords (put m) off (v.toList.map f) = put v := by
  have h := writeWords_field (off := off) (put := put) (set := fun m k w => m.setIfInBounds k (get w))
    (ws := v.toList.map f) (k := 0) (fun m j w hj => hwrite m j w (by simpa using hj)) m
  rwa [setWords_each hget] at h

/-! #### Which field a word of the item writes -/

theorem writeTable_gain (t : Table) (w : Word) {j : Nat} (h : j < 12) :
    writeTable t (6 + j) w = { t with gain := t.gain.setIfInBounds j w } := by
  simp (disch := omega) only [writeTable, if_neg, if_pos, Nat.add_sub_cancel_left]

theorem writeTable_skew (t : Table) (w : Word) {j : Nat} (h : j < 12) :
    writeTable t (18 + j) w = { t with skew := t.skew.setIfInBounds j (w.extractLsb' 0 12) } := by
  simp (disch := omega) only [writeTable, if_neg, if_pos, Nat.add_sub_cancel_left]

theorem writeTable_classMap (t : Table) (w : Word) {j : Nat} (h : j < 13) :
    writeTable t (30 + j) w = { t with classMap := writeClasses t.classMap j w } := by
  simp (disch := omega) only [writeTable, if_neg, if_pos, Nat.add_sub_cancel_left]

theorem writeTable_inductive (t : Table) (w : Word) {j : Nat} (h : j < 8) :
    writeTable t (43 + j) w = { t with inductiveRatio := t.inductiveRatio.setIfInBounds j w } := by
  simp (disch := omega) only [writeTable, if_neg, if_pos, Nat.add_sub_cancel_left]

theorem writeTable_capacitive (t : Table) (w : Word) {j : Nat} (h : j < 8) :
    writeTable t (51 + j) w = { t with capacitiveRatio := t.capacitiveRatio.setIfInBounds j w } := by
  simp (disch := omega) only [writeTable, if_neg, if_pos, Nat.add_sub_cancel_left]

theorem writeTable_past (t : Table) (w : Word) {k : Nat} (h : 60 ≤ k) : writeTable t k w = t := by
  simp (disch := omega) only [writeTable, if_neg]

/-! #### The fields written by their words -/

theorem writeWords_gain (u : Table) (v : Vector Word 12) : writeWords u 6 v.toList = { u with gain := v } := by
  have h := writeWords_each (off := 6) (put := fun m => { u with gain := m }) (get := id) (f := id)
    (fun m j w hj => writeTable_gain _ w hj) (fun _ => rfl) v u.gain
  rwa [List.map_id] at h

theorem signExtend_extractLsb' (x : BitVec 12) : (x.signExtend 16).extractLsb' 0 12 = x := by
  ext i hi
  rw [BitVec.getElem_extractLsb', Nat.zero_add, BitVec.getLsbD_signExtend]
  simp [show i < 16 by omega, hi]

theorem writeWords_skew (u : Table) (v : Vector (BitVec 12) 12) :
    writeWords u 18 (v.toList.map (·.signExtend 16)) = { u with skew := v } :=
  writeWords_each (off := 18) (put := fun m => { u with skew := m }) (get := fun w => w.extractLsb' 0 12)
    (fun _ _ w hj => writeTable_skew _ w hj) signExtend_extractLsb' v u.skew

theorem writeWords_inductive (u : Table) (v : Vector Word 8) :
    writeWords u 43 v.toList = { u with inductiveRatio := v } := by
  have h := writeWords_each (off := 43) (put := fun m => { u with inductiveRatio := m }) (get := id) (f := id)
    (fun m j w hj => writeTable_inductive _ w hj) (fun _ => rfl) v u.inductiveRatio
  rwa [List.map_id] at h

theorem writeWords_capacitive (u : Table) (v : Vector Word 8) :
    writeWords u 51 v.toList = { u with capacitiveRatio := v } := by
  have h := writeWords_each (off := 51) (put := fun m => { u with capacitiveRatio := m }) (get := id) (f := id)
    (fun m j w hj => writeTable_capacitive _ w hj) (fun _ => rfl) v u.capacitiveRatio
  rwa [List.map_id] at h

theorem writeClasses_getElem (m : Vector (BitVec 4) 49) (k : Nat) (w : Word) (i : Nat) (hi : i < 49) :
    (writeClasses m k w)[i] = if i / 4 = k then w.extractLsb' (12 - 4 * (i % 4)) 4 else m[i] := by
  simp only [writeClasses, Vector.getElem_setIfInBounds hi]
  by_cases hk : i / 4 = k
  · have hmod : i % 4 = 0 ∨ i % 4 = 1 ∨ i % 4 = 2 ∨ i % 4 = 3 := by omega
    rw [if_pos hk]
    obtain h | h | h | h := hmod <;> simp (disch := omega) only [h, if_neg, if_pos, Nat.reduceMul, Nat.reduceSub]
  · simp (disch := omega) only [if_neg, hk, if_false]

theorem classWord_getElem (t : Table) {i : Nat} (hi : i < 49) :
    (classWord t (i / 4)).extractLsb' (12 - 4 * (i % 4)) 4 = t.classMap[i] := by
  have hmod : i % 4 = 0 ∨ i % 4 = 1 ∨ i % 4 = 2 ∨ i % 4 = 3 := by omega
  have hplace : t.classMap.toList.getD (4 * (i / 4) + i % 4) 0 = t.classMap[i] := by
    rw [Nat.div_add_mod]
    simp [hi]
  unfold classWord
  obtain h | h | h | h := hmod <;> rw [h] at hplace ⊢ <;> rw [← hplace]
  · rw [BitVec.extractLsb'_append_eq_of_le (by decide), BitVec.extractLsb'_append_eq_of_le (by decide),
      BitVec.extractLsb'_append_eq_left]
  · rw [BitVec.extractLsb'_append_eq_of_le (by decide), BitVec.extractLsb'_append_eq_of_le (by decide),
      BitVec.extractLsb'_append_eq_right]
  · rw [BitVec.extractLsb'_append_eq_of_le (by decide), BitVec.extractLsb'_append_eq_right]
  · exact BitVec.extractLsb'_append_eq_right

theorem writeWords_classMap (u t : Table) :
    writeWords u 30 ((List.range 13).map (classWord t)) = { u with classMap := t.classMap } := by
  have h := writeWords_field (off := 30) (put := fun m => { u with classMap := m }) (set := writeClasses)
    (ws := (List.range 13).map (classWord t)) (k := 0) (fun m j w hj => writeTable_classMap _ w (by simpa using hj))
    u.classMap
  rwa [setWords_eq (v := t.classMap) writeClasses_getElem (fun i hi => by simp; omega) fun i hi hj => by
    simpa using classWord_getElem t hi] at h

/-- A 32-bit field written high word first is the value the two words spell. -/
theorem writeHalf_writeHalf (c d : BitVec 32) :
    writeHalf (writeHalf c true (d.extractLsb' 16 16)) false (d.extractLsb' 0 16) = d := by
  have hleft : writeHalf c true (d.extractLsb' 16 16) = d.extractLsb' 16 16 ++ c.extractLsb' 0 16 := rfl
  have hright : writeHalf (d.extractLsb' 16 16 ++ c.extractLsb' 0 16) false (d.extractLsb' 0 16) =
    (d.extractLsb' 16 16 ++ c.extractLsb' 0 16).extractLsb' 16 16 ++ d.extractLsb' 0 16 := rfl
  rw [hleft, hright, BitVec.extractLsb'_append_eq_left]
  exact BitVec.extractLsb'_append_extractLsb' (w := 16) (len := 16)

theorem writeWords_weightA (u : Table) (c : BitVec 32) :
    writeWords u 2 (countWords c) = { u with weight := { u.weight with a := c } } := by
  have hc := writeHalf_writeHalf u.weight.a c
  simp [countWords, writeWords, writeTable, hc]

theorem writeWords_weightB (u : Table) (c : BitVec 32) :
    writeWords u 4 (countWords c) = { u with weight := { u.weight with b := c } } := by
  have hc := writeHalf_writeHalf u.weight.b c
  simp [countWords, writeWords, writeTable, hc]

theorem writeWords_head (u : Table) (f : Word) (a b : Bool) :
    writeWords u 0 [f, bitAt 0 a ||| bitAt 1 b] = { u with frequency := f, enabled := { a := a, b := b } } := by
  cases a <;> cases b <;> rfl

theorem countWords_length (c : Count) : (countWords c).length = 2 := rfl

/-- A table read word by word and written word by word (R67). -/
theorem writeWords_tableWords (t u : Table) : writeWords u 0 (tableWords t) = t := by
  have hslot (u : Table) (b : Byte) : writeWords u 59 [b.setWidth 16] = { u with slotLength := b } := by
    have hb : (b.setWidth 16).extractLsb' 0 8 = b := by
      ext i hi
      simp [hi, show i < 16 by omega]
    simp [writeWords, writeTable, hb]
  simp only [tableWords, writeWords_append, List.length_append, List.length_map, Vector.length_toList, List.length_range,
    List.length_cons, List.length_nil, countWords_length, Nat.reduceAdd, writeWords_head, writeWords_weightA,
    writeWords_weightB, writeWords_gain, writeWords_skew, writeWords_classMap, writeWords_inductive,
    writeWords_capacitive, hslot]

theorem tableWords_length (t : Table) : (tableWords t).length = 60 := by simp [tableWords, countWords]

/-- Settles O47. -/
theorem headWordsAndTablesRoundTrip : Obligations.HeadWordsAndTablesRoundTrip :=
  ⟨decodeHead_encodeHead, encodeHead_decodeHead, fun t u => writeWords_tableWords t u, tableWords_length,
    fun t _ w hk => writeTable_past t w hk⟩

end Sys2Proof.Machine

/-! The items latched whole at their head words (R60, R65, R69, R136, R137, R151, R152, R178 to R182): their words field by
field, and what their reads clear. -/

namespace Sys2Proof.Machine

/-! ### Fields of a word (10.7) -/

/-- Only bits from `lo` up to `hi` of the word can be set. -/
def Within (w : Word) (lo hi : Nat) : Prop := ∀ i, i < lo ∨ hi ≤ i → w.getLsbD i = false

theorem fieldAt_getLsbD (k v i : Nat) :
    (fieldAt k v).getLsbD i = (decide (i < 16) && (decide (k ≤ i) && v.testBit (i - k))) := by
  rw [fieldAt, BitVec.getLsbD_ofNat, Nat.testBit_mul_two_pow]

theorem fieldAt_within {k v n : Nat} (h : v < 2 ^ n) : Within (fieldAt k v) k (k + n) := by
  rintro i (hi | hi)
  · simp [fieldAt_getLsbD, show ¬ k ≤ i by omega]
  · have hpow : 2 ^ n ≤ 2 ^ (i - k) := Nat.pow_le_pow_right (by decide) (by omega)
    simp [fieldAt_getLsbD, Nat.testBit_lt_two_pow (Nat.lt_of_lt_of_le h hpow)]

theorem bitAt_within (k : Nat) (b : Bool) : Within (bitAt k b) k (k + 1) :=
  fieldAt_within (n := 1) (Nat.lt_of_le_of_lt b.toNat_le (by decide))

theorem bitAt_getLsbD {k : Nat} (hk : k < 16) (b : Bool) : (bitAt k b).getLsbD k = b := by
  rw [bitAt, fieldAt_getLsbD]
  cases b <;> simp [hk]

theorem Within.getLsbD {w : Word} {lo hi i : Nat} (h : Within w lo hi) (hi : i < lo ∨ hi ≤ i) : w.getLsbD i = false :=
  h i hi

theorem Within.extract {w : Word} {lo hi at_ n : Nat} (h : Within w lo hi) (hout : at_ + n ≤ lo ∨ hi ≤ at_) :
    w.extractLsb' at_ n = 0#n := by
  ext i hi
  rw [BitVec.getElem_extractLsb', h (at_ + i) (by omega)]
  simp

theorem Within.and_right {w : Word} {lo hi : Nat} (h : Within w lo hi) (v : Word) : Within (v &&& w) lo hi :=
  fun i hi => by rw [BitVec.getLsbD_and, h i hi, Bool.and_false]

theorem Within.or {v w : Word} {lo hi : Nat} (hv : Within v lo hi) (hw : Within w lo hi) : Within (v ||| w) lo hi :=
  fun i hi => by rw [BitVec.getLsbD_or, hv i hi, hw i hi, Bool.or_false]

theorem Within.mono {w : Word} {lo hi lo' hi' : Nat} (h : Within w lo hi) (hlo : lo' ≤ lo) (hhi : hi ≤ hi') :
    Within w lo' hi' := fun i hi => h i (by omega)

/-- The value that stands at a field reads back (10.7). -/
theorem fieldAt_extract {k n : Nat} (h : k + n ≤ 16) (v : Nat) : (fieldAt k v).extractLsb' k n = BitVec.ofNat n v := by
  ext i hi
  rw [BitVec.getElem_extractLsb', fieldAt_getLsbD, ← BitVec.getLsbD_eq_getElem, BitVec.getLsbD_ofNat]
  simp [show k + i < 16 by omega, hi]

theorem fieldAt_zero (v : Nat) : fieldAt 0 v = BitVec.ofNat 16 v := by rw [fieldAt, Nat.pow_zero, Nat.mul_one]

/-- A byte over a byte (10.7). -/
theorem fieldAt_byte (c b : Byte) : fieldAt 8 c.toNat ||| fieldAt 0 b.toNat = c ++ b := by
  ext i hi
  rw [← BitVec.getLsbD_eq_getElem, ← BitVec.getLsbD_eq_getElem, BitVec.getLsbD_or, BitVec.getLsbD_append,
    fieldAt_getLsbD, fieldAt_getLsbD, BitVec.testBit_toNat, BitVec.testBit_toNat]
  by_cases h : i < 8
  · simp [h, hi, show ¬ 8 ≤ i by omega]
  · simp [h, hi, show 8 ≤ i by omega]

theorem fieldAt_add {k v u : Nat} (h : u < 2 ^ k) : fieldAt k v ||| fieldAt 0 u = BitVec.ofNat 16 (v * 2 ^ k + u) := by
  rw [fieldAt_zero, fieldAt, ← BitVec.ofNat_or, ← Nat.shiftLeft_eq, Nat.shiftLeft_add_eq_or_of_lt h]

/-! ### The pending set (R136, R137) -/

theorem crossing_toNat (c : Crossing) : crossingCode c = (c == .fall).toNat := by cases c <;> rfl

theorem signalling_toNat (g : Signalling) : signallingCode g = (g == .level).toNat := by cases g <;> rfl

theorem entryWatchBits_within (s : State) (e : PendingEntry) : Within (entryWatchBits s e) 2 4 := by
  unfold entryWatchBits
  split
  · rename_i w _
    rw [signalling_toNat]
    exact ((bitAt_within 3 _).mono (by decide) (by decide)).or ((bitAt_within 2 w.above).mono (by decide) (by decide))
  · exact fun i _ => BitVec.getLsbD_zero

theorem entryWatchBits_some {s : State} {e : PendingEntry} {a : Account} {w : Watch} (ha : s.account e.account = some a)
    (hw : a.watches[e.watch]? = some w) :
    entryWatchBits s e = bitAt 3 (w.signalling == .level) ||| bitAt 2 w.above := by
  simp [entryWatchBits, ha, hw, signalling_toNat, bitAt]

/-- The first word of an entry of the pending-set item (10.7). -/
def entryWord (s : State) (e : PendingEntry) : Word :=
  fieldAt 8 e.account ||| fieldAt 6 e.watch ||| bitAt 5 (e.first == .fall) ||| bitAt 4 (e.latest == .fall)
    ||| entryWatchBits s e

theorem entryWord_shown (s : State) {e : PendingEntry} (haccount : e.account < 24) (hwatch : e.watch < 4) :
    EntryShown s e (entryWord s e) (fieldAt 0 e.count) := by
  have hwatchBits := entryWatchBits_within s e
  have haccountBits : Within (fieldAt 8 e.account) 8 16 := fieldAt_within (n := 8) (by omega)
  have hindexBits : Within (fieldAt 6 e.watch) 6 8 := fieldAt_within (n := 2) (by omega)
  have hfirst := bitAt_within 5 (e.first == .fall)
  have hlatest := bitAt_within 4 (e.latest == .fall)
  refine ⟨?_, ?_, ?_, ?_, ?_, fun a w ha hw => ?_, fieldAt_zero e.count⟩
  · simp (disch := omega) only [entryWord, BitVec.extractLsb'_or, fieldAt_extract, hindexBits.extract, hfirst.extract,
      hlatest.extract, hwatchBits.extract, BitVec.or_zero]
  · simp (disch := omega) only [entryWord, BitVec.extractLsb'_or, fieldAt_extract, haccountBits.extract, hfirst.extract,
      hlatest.extract, hwatchBits.extract, BitVec.or_zero, BitVec.zero_or]
  · simp (disch := omega) only [entryWord, BitVec.getLsbD_or, bitAt_getLsbD, haccountBits.getLsbD, hindexBits.getLsbD,
      hlatest.getLsbD, hwatchBits.getLsbD, Bool.or_false, Bool.false_or]
  · simp (disch := omega) only [entryWord, BitVec.getLsbD_or, bitAt_getLsbD, haccountBits.getLsbD, hindexBits.getLsbD,
      hfirst.getLsbD, hwatchBits.getLsbD, Bool.or_false, Bool.false_or]
  · simp (disch := omega) only [entryWord, BitVec.extractLsb'_or, haccountBits.extract, hindexBits.extract,
      hfirst.extract, hlatest.extract, hwatchBits.extract, BitVec.or_zero]
  · have hlevel := bitAt_within 3 (w.signalling == .level)
    have habove := bitAt_within 2 w.above
    constructor <;> simp (disch := omega) only [entryWord, entryWatchBits_some ha hw, BitVec.getLsbD_or, bitAt_getLsbD,
      haccountBits.getLsbD, hindexBits.getLsbD, hfirst.getLsbD, hlatest.getLsbD, hlevel.getLsbD, habove.getLsbD,
      Bool.or_false, Bool.false_or]

theorem pendingSetWords_eq (s : State) (p : Port) : pendingSetWords s p = BitVec.ofNat 16 (s.port p).pendingSet.length ::
    (s.port p).pendingSet.flatMap fun e => [entryWord s e, fieldAt 0 e.count] := by
  unfold pendingSetWords entryWord
  simp only [fieldAt_zero, bitAt, crossing_toNat]

theorem flatMap_pair_even {α β : Type} (f g : α → β) (l : List α) (k : Nat) :
    (l.flatMap fun a => [f a, g a])[2 * k]? = l[k]?.map f ∧ (l.flatMap fun a => [f a, g a])[2 * k + 1]? = l[k]?.map g := by
  induction l generalizing k with
  | nil => exact ⟨rfl, rfl⟩
  | cons x xs ih =>
    cases k with
    | zero => exact ⟨rfl, rfl⟩
    | succ k => exact ih k

theorem State.settleEntry_eq (s : State) (e : PendingEntry) : s.settleEntry e =
    if 0 < e.sinceCount then some { e with first := e.sinceFirst, count := e.sinceCount }
    else match (s.account e.account).bind fun a => a.watches[e.watch]? with
      | some w =>
        if w.signalling = .level ∧ w.above = true then some { e with first := e.latest, count := 0 } else none
      | none => none := by
  unfold State.settleEntry State.levelAbove
  split
  · rfl
  · cases hw : (s.account e.account).bind fun a => a.watches[e.watch]? <;> simp

/-- A transaction right after its head word, with an item latched whole. -/
theorem Transaction.begin_latched {x : PortState} {r : Readout} (h : x.select = .low r) (k : TxKind) (w : Word)
    (ws : List Word) (keys : List (Nat × Nat)) :
    NewlyOpen x { Transaction.begin r k w true with latch := plainWords ws, keys := keys } k w :=
  ⟨rfl, rfl, rfl, rfl, rfl, rfl, rfl, rfl, rfl, rfl, h, rfl, fun _ => plainWords_saturated⟩

/-- The pending-set item as a read latches it (R136, R137, 10.7). -/
theorem pendingSetWords_shown (s : State) {p : Port} (h : (s.port p).Law) :
    (pendingSetWords s p).length = 1 + 2 * (s.port p).pendingSet.length
      ∧ ∀ (k : Nat) (e : PendingEntry), (s.port p).pendingSet[k]? = some e → ∃ a b,
          (pendingSetWords s p)[2 * k + 1]? = some a ∧ (pendingSetWords s p)[2 * k + 2]? = some b ∧ EntryShown s e a b := by
  obtain ⟨_, hentries, _⟩ := h
  refine ⟨?_, fun k e hk => ⟨entryWord s e, fieldAt 0 e.count, ?_, ?_, ?_⟩⟩
  · rw [pendingSetWords_eq, List.length_cons, List.length_flatMap]
    simp [Nat.mul_comm, Nat.add_comm]
  · obtain ⟨heven, _⟩ := flatMap_pair_even (entryWord s) (fun e => fieldAt 0 e.count) (s.port p).pendingSet k
    rw [pendingSetWords_eq, List.getElem?_cons_succ, heven, hk]
    rfl
  · obtain ⟨_, hodd⟩ := flatMap_pair_even (entryWord s) (fun e => fieldAt 0 e.count) (s.port p).pendingSet k
    rw [pendingSetWords_eq, List.getElem?_cons_succ, hodd, hk]
    rfl
  · obtain ⟨haccount, hwatch, _⟩ := hentries e (List.mem_of_getElem? hk)
    exact entryWord_shown s haccount hwatch

theorem State.pendingHead_eq (s : State) (p : Port) (r : Readout) (w : Word) :
    s.pendingHead p r w = s.setPort p { s.port p with
      transaction := some { Transaction.begin r .pendingSet w true with
        latch := plainWords (pendingSetWords s p)
        keys := (s.port p).pendingSet.map fun e => (e.account, e.watch) }
      dataOut := 0xFFFF
      pendingSet := (s.port p).pendingSet.map fun e => { e with sinceCount := 0 } } := by
  rw [State.pendingHead, State.enter_eq, State.updPort_setPort]
  rfl

/-! ### The fault record (R151, R152) -/

theorem faultByte_within (free : Word) (k : Nat) (b : Option Byte) : Within (faultByte free k b) k (k + 8) := by
  cases b with
  | none => exact (fieldAt_within (n := 8) (by decide)).and_right free
  | some b => exact fieldAt_within (n := 8) b.isLt

theorem faultByte_extract {k : Nat} (hk : k + 8 ≤ 16) (free : Word) (b : Byte) :
    (faultByte free k (some b)).extractLsb' k 8 = b := by
  rw [faultByte, fieldAt_extract hk, BitVec.ofNat_toNat, BitVec.setWidth_eq]

theorem faultWords_shown (s : State) (p : Port) : FaultShown (s.port p).fault (faultWords s p) := by
  refine ⟨fun hnone => ?_, fun f hsome => ?_⟩
  · rw [faultWords, hnone]
    cases (s.port p).fault.overflow <;> rfl
  · have hkind : Within (fieldAt 11 (faultKindCode f.kind)) 11 14 :=
      fieldAt_within (n := 3) (by cases f.kind <;> decide)
    have hfull := bitAt_within 15 true
    have hoverflow := bitAt_within 14 (s.port p).fault.overflow
    have hrequest := bitAt_within 10 f.request
    have haccount := bitAt_within 9 f.account.isSome
    have hentry := bitAt_within 8 f.entry.isSome
    have hlow (b : Option Byte) := faultByte_within (s.absent 1) 0 b
    have hhigh (b : Option Byte) := faultByte_within (s.absent 1) 8 b
    refine ⟨_, _, by rw [faultWords, hsome], ?_, ?_, ?_, ?_, ?_, ?_, ?_, fun n hn => ?_, fun n hn => ?_⟩
    · simp (disch := omega) only [BitVec.getLsbD_or, bitAt_getLsbD, hoverflow.getLsbD, hkind.getLsbD,
        hrequest.getLsbD, haccount.getLsbD, hentry.getLsbD, Bool.or_false]
    · simp (disch := omega) only [BitVec.getLsbD_or, bitAt_getLsbD, hfull.getLsbD, hkind.getLsbD, hrequest.getLsbD,
        haccount.getLsbD, hentry.getLsbD, Bool.or_false, Bool.false_or]
    · simp (disch := omega) only [BitVec.extractLsb'_or, fieldAt_extract, hfull.extract, hoverflow.extract,
        hrequest.extract, haccount.extract, hentry.extract, BitVec.or_zero, BitVec.zero_or]
    · simp (disch := omega) only [BitVec.getLsbD_or, bitAt_getLsbD, hfull.getLsbD, hoverflow.getLsbD, hkind.getLsbD,
        haccount.getLsbD, hentry.getLsbD, Bool.or_false, Bool.false_or]
    · simp (disch := omega) only [BitVec.getLsbD_or, bitAt_getLsbD, hfull.getLsbD, hoverflow.getLsbD, hkind.getLsbD,
        hrequest.getLsbD, hentry.getLsbD, Bool.or_false, Bool.false_or]
    · simp (disch := omega) only [BitVec.getLsbD_or, bitAt_getLsbD, hfull.getLsbD, hoverflow.getLsbD, hkind.getLsbD,
        hrequest.getLsbD, haccount.getLsbD, Bool.false_or]
    · simp (disch := omega) only [BitVec.extractLsb'_or, hfull.extract, hoverflow.extract, hkind.extract,
        hrequest.extract, haccount.extract, hentry.extract, BitVec.or_zero]
    · rw [BitVec.extractLsb'_or, (hlow f.entry).extract (by decide), BitVec.or_zero, hn, faultByte_extract (by decide)]
    · rw [BitVec.extractLsb'_or, (hhigh f.account).extract (by decide), BitVec.zero_or, hn,
        faultByte_extract (by decide)]

theorem State.faultHead_eq (s : State) (p : Port) (r : Readout) (w : Word) :
    s.faultHead p r w = { s.setPort p { s.port p with
      transaction := some { Transaction.begin r .faultRecord w true with latch := plainWords (faultWords s p) }
      dataOut := 0xFFFF
      faultSince := false } with freeDraws := s.freeDraws + 1 } := by
  rw [State.faultHead, State.enter_eq, State.updPort_setPort]
  rfl

/-! ### The ends of their reads (R137, R152, R174; O51) -/

theorem State.close_updPort (s : State) (p : Port) (f : PortState → PortState) : (s.close p).updPort p f =
    s.setPort p (f { s.port p with select := .high, transaction := none }) := by
  rw [State.close_eq, State.updPort_setPort]

theorem PortState.faultRead_eq (x : PortState) (y : Transaction) : x.faultRead y = { x with
    fault := if 2 ≤ y.moved ∧ x.faultSince = false then { content := none, overflow := false } else x.fault } := by
  unfold PortState.faultRead
  split <;> rfl

/-- Settles O51. -/
theorem pendingSetAndFaultReadsEmptyWhatWasRead : Obligations.PendingSetAndFaultReadsEmptyWhatWasRead := by
  intro s p hr
  refine ⟨fun w ⟨hx, r, hs⟩ => ⟨fun hrow hlaw => ?_, fun hrow => ?_⟩, fun x hx => ⟨fun hk => ?_, fun hk => ?_,
    fun w => ⟨fun hk => ?_, fun hk => ?_⟩⟩⟩
  · obtain ⟨hlength, hentries⟩ := pendingSetWords_shown s hlaw
    refine ⟨_, next_head hr hx hs hrow (s.pendingHead_eq p r w),
      Transaction.begin_latched hs .pendingSet w _ _, rfl, ?_, ?_, ?_⟩
    · rw [plainWords, List.length_map, hlength]
    · rw [plainWords_word, pendingSetWords_eq]
      rfl
    · rw [plainWords_word]
      exact hentries
  · refine ⟨_, _, next_head hr hx hs hrow (s.faultHead_eq p r w),
      Transaction.begin_latched hs .faultRecord w _ [], ?_⟩
    rw [plainWords_word]
    exact faultWords_shown s p
  · refine next_rise hr hx hk ((s.close_updPort p _).trans ?_)
    simp only [State.pendingAfter, State.settleEntry_eq, entriesRead] <;> rfl
  · refine next_rise hr hx hk ((s.close_updPort p _).trans ?_)
    rw [PortState.faultRead_eq]
  · exact ⟨_, next_word hr hx hk rfl, s.readItem_moved p x⟩
  · exact ⟨_, next_word hr hx hk rfl, s.readItem_moved p x⟩

end Sys2Proof.Machine

/-! The items open to every port (R60, R65, R69, R112, R153, R178 to R182): their words, and what a read of the status
clears. -/

namespace Sys2Proof.Machine

/-! ### The status item (R155, R180) -/

theorem freezeBits_within (s : State) (p : Port) : Within (freezeBits s p) 10 13 := by
  unfold freezeBits
  split
  · rename_i b _
    exact ((fieldAt_within (n := 2) (by decide)).mono (by decide) (by decide)).or
      ((fieldAt_within (n := 1) b.isLt).mono (by decide) (by decide))
  · refine ((fieldAt_within (n := 2) ?_).mono (by decide) (by decide)).or
      (((fieldAt_within (n := 1) (by decide)).and_right _).mono (by decide) (by decide))
    split <;> decide

theorem freezeBits_held {s : State} {p : Port} {b : Fin 2} (h : s.freeze.heldBy p = some b) :
    (freezeBits s p).extractLsb' 11 2 = 2#2 ∧ (freezeBits s p).getLsbD 10 = decide (b = 1) := by
  have hbits : ∀ b : Fin 2, (fieldAt 11 2 ||| fieldAt 10 b.val).extractLsb' 11 2 = 2#2
      ∧ (fieldAt 11 2 ||| fieldAt 10 b.val).getLsbD 10 = decide (b = 1) := by decide
  simp only [freezeBits, h]
  exact hbits b

theorem freezeBits_free {s : State} {p : Port} (h : s.freeze.heldBy p = none) :
    (freezeBits s p).extractLsb' 11 2 = if s.freeze.isWaiting p then 1#2 else 0#2 := by
  have hnumber : Within (s.absent 1 &&& fieldAt 10 1) 10 11 := (fieldAt_within (n := 1) (by decide)).and_right _
  simp only [freezeBits, h]
  rw [BitVec.extractLsb'_or, hnumber.extract (by decide), BitVec.or_zero, fieldAt_extract (by decide)]
  split <;> rfl

theorem FreezeUnit.isWaiting_false (u : FreezeUnit) (p : Port) :
    u.isWaiting p = false ↔ ∀ w ∈ u.waiting, w.port ≠ p := by simp [FreezeUnit.isWaiting]

theorem timeStateCode_lt (x : TimeState) : timeStateCode x < 2 ^ 2 := by cases x <;> decide

theorem statusWords_shown (s : State) (p : Port) : StatusShown s p (statusWords s p) := by
  have hoverrun := bitAt_within 15 (s.port p).overrun
  have hlimited := bitAt_within 14 (s.port p).limited
  have hcold := bitAt_within 13 (s.port p).cold
  have hfreeze := freezeBits_within s p
  have htime : Within (fieldAt 8 (timeStateCode s.time.state)) 8 10 := fieldAt_within (timeStateCode_lt _)
  have hband : Within (fieldAt 5 s.time.band.toNat) 5 8 := fieldAt_within s.time.band.isLt
  have hcondition : (bitAt 15 (s.port p).overrun ||| bitAt 14 (s.port p).limited ||| bitAt 13 (s.port p).cold
      ||| freezeBits s p ||| fieldAt 8 (timeStateCode s.time.state) ||| fieldAt 5 s.time.band.toNat).extractLsb' 11 2 =
        (freezeBits s p).extractLsb' 11 2 := by
    simp (disch := omega) only [BitVec.extractLsb'_or, hoverrun.extract, hlimited.extract, hcold.extract, htime.extract,
      hband.extract, BitVec.or_zero, BitVec.zero_or]
  refine ⟨_, _, rfl, fun k => ?_, ?_, ?_, ?_, fun b hb => ⟨?_, ?_⟩, fun hfree hwaits => ?_, fun hfree hnone => ?_, ?_, ?_, ?_⟩
  · rw [BitVec.getLsbD_setWidth, ← State.eventStatus_getLsbD]
    by_cases hk : k < 16
    · simp [hk]
    · simp [hk, (s.eventStatus p).getLsbD_of_ge k (by omega)]
  · simp (disch := omega) only [BitVec.getLsbD_or, bitAt_getLsbD, hlimited.getLsbD, hcold.getLsbD, hfreeze.getLsbD,
      htime.getLsbD, hband.getLsbD, Bool.or_false]
  · simp (disch := omega) only [BitVec.getLsbD_or, bitAt_getLsbD, hoverrun.getLsbD, hcold.getLsbD, hfreeze.getLsbD,
      htime.getLsbD, hband.getLsbD, Bool.or_false, Bool.false_or]
  · simp (disch := omega) only [BitVec.getLsbD_or, bitAt_getLsbD, hoverrun.getLsbD, hlimited.getLsbD, hfreeze.getLsbD,
      htime.getLsbD, hband.getLsbD, Bool.or_false, Bool.false_or]
  · obtain ⟨hheld, _⟩ := freezeBits_held hb
    rw [hcondition, hheld]
  · obtain ⟨_, hnumber⟩ := freezeBits_held hb
    simp (disch := omega) only [BitVec.getLsbD_or, hoverrun.getLsbD, hlimited.getLsbD, hcold.getLsbD, htime.getLsbD,
      hband.getLsbD, hnumber, Bool.or_false, Bool.false_or]
  · rw [hcondition, freezeBits_free hfree, if_pos ((s.freeze.isWaiting_iff_exists p).mpr hwaits)]
  · rw [hcondition, freezeBits_free hfree, (s.freeze.isWaiting_false p).mpr hnone]
    rfl
  · simp (disch := omega) only [BitVec.extractLsb'_or, fieldAt_extract, hoverrun.extract, hlimited.extract,
      hcold.extract, hfreeze.extract, hband.extract, BitVec.or_zero, BitVec.zero_or]
  · simp (disch := omega) only [BitVec.extractLsb'_or, fieldAt_extract, hoverrun.extract, hlimited.extract,
      hcold.extract, hfreeze.extract, htime.extract, BitVec.zero_or, BitVec.ofNat_toNat, BitVec.setWidth_eq]
  · simp (disch := omega) only [BitVec.extractLsb'_or, hoverrun.extract, hlimited.extract, hcold.extract,
      hfreeze.extract, htime.extract, hband.extract, BitVec.or_zero]

/-! ### The other PORT items (R178, R182) -/

theorem responseWords_none {s : State} {p : Port} (h : (s.port p).slot = .none) :
    ∃ x : Word, responseWords s p = [x] ∧ x.extractLsb' 0 8 = 0#8 := by
  have hcode : Within (s.absent 0 &&& fieldAt 8 255) 8 16 := (fieldAt_within (n := 8) (by decide)).and_right _
  exact ⟨_, by rw [responseWords, h], hcode.extract (by decide)⟩

theorem responseWords_inProgress {s : State} {p : Port} {c : Byte} (h : (s.port p).slot = .inProgress c) :
    responseWords s p = [c ++ 3#8] := by
  rw [responseWords, h]
  exact congrArg (fun w => [w]) (fieldAt_byte c 3#8)

theorem responseWords_answered {s : State} {p : Port} {c : Byte} {r : Response} (h : (s.port p).slot = .answered c r) :
    responseWords s p = [c ++ BitVec.ofNat 8 (responseCode r)] := by
  have hcode : responseCode r = (BitVec.ofNat 8 (responseCode r)).toNat := by cases r <;> rfl
  rw [responseWords, h, ← fieldAt_byte, ← hcode]

theorem settingsWords_eq (s : State) (p : Port) : settingsWords s p =
    [BitVec.ofNat 16 ((s.port p).settings.exponent * 4 + formatCode (s.port p).settings.format),
      (s.port p).settings.enables.setWidth 16] := by
  have hformat : formatCode (s.port p).settings.format < 2 ^ 2 := by cases (s.port p).settings.format <;> decide
  rw [settingsWords, fieldAt_add hformat, Nat.pow_two]

/-! ### The RESULT and JOINT items (R60, R65, R67, R69) -/

theorem incomer_toNat (i : Incomer) : incomerCode i = (i == .B).toNat := by cases i <;> rfl

theorem windowCause_toNat (c : WindowCause) : windowCauseCode c = (c == .timeLimit).toNat := by cases c <;> rfl

theorem dispositionCode_lt (x : Figures) : dispositionCode x < 2 ^ 2 := by cases x <;> simp [dispositionCode]

theorem resultWords_shown (latest : Option ResultRecord) : ResultShown latest (resultWords latest) := by
  refine ⟨fun h => by rw [h]; rfl, fun r h => ?_⟩
  have hdisposition : Within (fieldAt 14 (dispositionCode r.figures)) 14 16 :=
    fieldAt_within (dispositionCode_lt _)
  have hincomer := bitAt_within 13 (r.incomer == .B)
  have hcause := bitAt_within 12 (r.cause == .timeLimit)
  have hlimited := bitAt_within 11 r.limited
  have hband : Within (fieldAt 8 r.band.toNat) 8 11 := fieldAt_within r.band.isLt
  refine ⟨fieldAt 14 (dispositionCode r.figures) ||| bitAt 13 (r.incomer == .B) ||| bitAt 12 (r.cause == .timeLimit)
    ||| bitAt 11 r.limited ||| fieldAt 8 r.band.toNat, ?_, ?_, ?_, ?_, ?_, ?_, ?_⟩
  · rw [h, resultWords, incomer_toNat, windowCause_toNat]
    cases r.figures with
    | valid incs raw => exact congrArg (_ :: ·) (List.append_assoc _ _ _)
    | substituted incs => exact congrArg (_ :: ·) (List.append_nil _)
    | gap => exact congrArg (_ :: ·) (List.append_nil _)
  · have hcode : (fieldAt 14 (dispositionCode r.figures)).extractLsb' 14 2 = BitVec.ofNat 2 (dispositionCode r.figures) :=
      fieldAt_extract (by decide) _
    simp (disch := omega) only [BitVec.extractLsb'_or, hincomer.extract, hcause.extract, hlimited.extract,
      hband.extract, BitVec.or_zero, hcode]
    cases r.figures <;> rfl
  · simp (disch := omega) only [BitVec.getLsbD_or, bitAt_getLsbD, hdisposition.getLsbD, hcause.getLsbD,
      hlimited.getLsbD, hband.getLsbD, Bool.or_false, Bool.false_or]
  · simp (disch := omega) only [BitVec.getLsbD_or, bitAt_getLsbD, hdisposition.getLsbD, hincomer.getLsbD,
      hlimited.getLsbD, hband.getLsbD, Bool.or_false, Bool.false_or]
  · simp (disch := omega) only [BitVec.getLsbD_or, bitAt_getLsbD, hdisposition.getLsbD, hincomer.getLsbD,
      hcause.getLsbD, hband.getLsbD, Bool.or_false, Bool.false_or]
  · simp (disch := omega) only [BitVec.extractLsb'_or, fieldAt_extract, hdisposition.extract, hincomer.extract,
      hcause.extract, hlimited.extract, BitVec.zero_or, BitVec.ofNat_toNat, BitVec.setWidth_eq]
  · simp (disch := omega) only [BitVec.extractLsb'_or, hdisposition.extract, hincomer.extract, hcause.extract,
      hlimited.extract, hband.extract, BitVec.or_zero]

theorem proposalWords_some {j : Joint} {q : Proposal} (h : j.proposal = some q) : proposalWords j = tableWords q.table ++
    [BitVec.ofNat 16 (32768 + portCode q.proposer), q.serial, BitVec.ofNat 16 q.remaining] := by
  have hproposer : bitAt 15 true ||| fieldAt 0 (portCode q.proposer) = BitVec.ofNat 16 (32768 + portCode q.proposer) := by
    cases q.proposer <;> rfl
  rw [proposalWords, h, ← hproposer, ← fieldAt_zero q.remaining]

theorem decodeHead_headWord (write : Bool) (space : Space) (item : Byte) :
    decodeHead (headWord write space item) = { framing := 0b1011, write := write, space := space, item := item } :=
  decodeHead_encodeHead _

theorem openItemWords_shown (s : State) (p : Port) (w : Word) :
    OpenItemShown s p w (openItemWords s p (decodeHead w)) := by
  refine ⟨fun k hw => ⟨fun hk => ?_, fun hk => ?_, fun hk => ?_⟩, fun i hw => ?_, fun hw => ?_, fun hw d hd => ?_,
    fun hw => ?_⟩
  · rw [hw, hk, decodeHead_headWord]
    exact statusWords_shown s p
  · rw [hw, hk, decodeHead_headWord]
    exact ⟨responseWords_none, fun _ => responseWords_inProgress, fun _ _ => responseWords_answered⟩
  · rw [hw, hk, decodeHead_headWord]
    exact settingsWords_eq s p
  · rw [hw, decodeHead_headWord]
    cases i <;> exact resultWords_shown _
  · rw [hw, decodeHead_headWord]
    rfl
  · rw [hw, decodeHead_headWord]
    exact (congrArg (fun o => (o.map draftWords).getD []) hd :)
  · rw [hw, decodeHead_headWord]
    exact ⟨fun hnone => by rw [openItemWords]; simp [jointWords, proposalWords, hnone], fun q hq => proposalWords_some hq⟩

/-! ### The events of their reads (O50) -/

theorem rowOf_openItem {p : Port} {w : Word} (h : rowOf p w = .openItem) :
    (decodeHead w).framing = 0b1011 ∧ (decodeHead w).write = false := by
  unfold rowOf at h
  dsimp only at h
  split at h
  · cases h
  · rename_i hframing
    refine ⟨Decidable.not_not.mp hframing, ?_⟩
    split at h
    · cases h
    · split at h
      · cases h
      · rename_i hallowed
        cases hwrite : (decodeHead w).write with
        | false => rfl
        | true => cases hspace : (decodeHead w).space <;> simp [hspace, hwrite, directionAllowed] at h hallowed

/-- A transaction reads the status when its head word names PORT item 0 (R172, R180). -/
theorem Transaction.isStatus_iff (x : Transaction) :
    x.isStatus = true ↔ (decodeHead x.head).space = .port ∧ (decodeHead x.head).item = 0 := by
  simp [Transaction.isStatus, Transaction.item]

/-- The head words of a status read among those of the row (R170 to R172). -/
theorem headWord_status_iff {p : Port} {w : Word} (h : rowOf p w = .openItem) :
    ((decodeHead w).space = .port ∧ (decodeHead w).item = 0) ↔ w = headWord false .port 0 := by
  obtain ⟨hframing, hwrite⟩ := rowOf_openItem h
  refine ⟨fun ⟨hspace, hitem⟩ => ?_, fun hw => ?_⟩
  · rw [← encodeHead_decodeHead w, headWord, ← hframing, ← hwrite, ← hspace, ← hitem]
  · rw [hw, decodeHead_headWord]
    exact ⟨rfl, rfl⟩

/-- The head word of an open item latches it whole; that of the status starts anew what is noted since it (R172, R180). -/
theorem State.openHead_eq {s : State} {p : Port} {w : Word} (h : rowOf p w = .openItem) (r : Readout) :
    s.openHead p r w = { s.setPort p { s.port p with
      transaction := some { Transaction.begin r .openItem w true with
        latch := plainWords (openItemWords s p (decodeHead w)) }
      dataOut := 0xFFFF
      edgesSince := if w = headWord false .port 0 then 0 else (s.port p).edgesSince
      overrunSince := (s.port p).overrunSince && decide (w ≠ headWord false .port 0)
      limitedSince := (s.port p).limitedSince && decide (w ≠ headWord false .port 0) } with
        freeDraws := s.freeDraws + 1 } := by
  unfold State.openHead
  dsimp only
  by_cases hw : w = headWord false .port 0
  · have hstatus := (Transaction.isStatus_iff { Transaction.begin r .openItem w true with
      latch := plainWords (openItemWords s p (decodeHead w)) }).mpr ((headWord_status_iff h).mpr hw)
    rw [if_pos hstatus, State.enter_eq, State.updPort_setPort]
    simp only [hw, if_true, ne_eq, not_true_eq_false, decide_false, Bool.and_false]
    rfl
  · have hstatus := mt (Transaction.isStatus_iff { Transaction.begin r .openItem w true with
      latch := plainWords (openItemWords s p (decodeHead w)) }).mp (mt (headWord_status_iff h).mp hw)
    rw [if_neg hstatus, State.enter_eq]
    simp only [hw, if_false, ne_eq, not_false_eq_true, decide_true, Bool.and_true]
    rfl

theorem Transaction.isJoint_iff (x : Transaction) : x.isJoint = true ↔ x.head.extractLsb' 8 3 = 6#3 := by
  rw [Transaction.isJoint, beq_iff_eq]
  exact spaceOfBits_eq_iff

/-- The low bits of the head word of a status read, which are its space and its item, are all clear (10.7). -/
theorem Transaction.isStatus_head {x : Transaction} (h : x.isStatus = true) : x.head.extractLsb' 0 11 = 0#11 := by
  obtain ⟨hspace, hitem⟩ := x.isStatus_iff.mp h
  have hbits : x.head.extractLsb' 8 3 = 0#3 := spaceOfBits_eq_iff.mp hspace
  have happend : x.head.extractLsb' 8 3 ++ x.head.extractLsb' 0 8 = x.head.extractLsb' 0 11 :=
    BitVec.extractLsb'_append_extractLsb'_eq_extractLsb' rfl
  rw [← happend, hbits, ← decodeHead_item, hitem]
  rfl

theorem PortState.statusShifted_past {x : PortState} {y : Transaction}
    (h : 2 ≤ y.pointer ∨ y.latch[y.pointer]? = none) : x.statusShifted y = x := by
  unfold PortState.statusShifted
  split
  · rename_i v hv
    obtain h | h := h
    · rw [if_neg (by omega), if_neg (by omega)]
    · rw [h] at hv
      cases hv
  · rfl

theorem PortState.statusShifted_first {x : PortState} {y : Transaction} {v : OutWord} (hv : y.latch[y.pointer]? = some v)
    (h : y.pointer = 0) : x.statusShifted y = x.clearEdges v.word := by simp only [PortState.statusShifted, hv, if_pos h]

theorem PortState.statusShifted_second {x : PortState} {y : Transaction} {v : OutWord}
    (hv : y.latch[y.pointer]? = some v) (h : y.pointer = 1) : x.statusShifted y = x.clearFlags v.word := by
  simp only [PortState.statusShifted, hv, if_neg (h ▸ Nat.one_ne_zero : y.pointer ≠ 0), if_pos h]

/-- What the word of the status at the pointer leaves of a port but for the indications and flags that it clears (R180). -/
theorem PortState.statusShifted_dataOut (x : PortState) (y : Transaction) : (x.statusShifted y).dataOut = x.dataOut := by
  unfold PortState.statusShifted
  split
  · split
    · rfl
    · split <;> rfl
  · rfl

/-- Each edge indication returned as set clears, but for those raised since (R179, R180). -/
theorem PortState.clearEdges_getLsbD (x : PortState) (w : Word) (k : Nat) : (x.clearEdges w).edges.getLsbD k =
    (x.edges.getLsbD k && !(w.getLsbD k && !x.edgesSince.getLsbD k)) := by
  by_cases hk : k < 12
  · simp [PortState.clearEdges, hk]
  · rw [BitVec.getLsbD_of_ge _ k (by omega), x.edges.getLsbD_of_ge k (by omega), Bool.false_and]

/-- A word of an open item that is no offset word and no word of the event status or the flags: from the latch (R172). -/
theorem State.openWord_moved {s : State} {p : Port} {x : Transaction}
    (hoffset : x.head.extractLsb' 8 3 ≠ 6#3 ∨ x.offset ≠ none)
    (hclears : x.head.extractLsb' 0 11 ≠ 0#11 ∨ 2 ≤ x.pointer ∨ x.latch[x.pointer]? = none) (w : Word) :
    s.openWord p x w = s.readItem p x := by
  have hnot : ¬(x.isJoint = true ∧ x.offset = none) := by
    rw [Transaction.isJoint_iff]
    tauto
  rw [State.openWord, if_neg hnot]
  split
  · rename_i hstatus
    have hpast := hclears.resolve_left (not_not_intro (Transaction.isStatus_head hstatus))
    rw [State.updPort, PortState.statusShifted_past hpast, State.setPort_same]
  · rfl

/-- A word of the status: shifted out, and then cleared what it returned (R180). -/
theorem State.openWord_status {s : State} {p : Port} {x : Transaction} {v : OutWord} (hz : x.zeros = false)
    (hhead : x.head = headWord false .port 0) (hv : x.latch[x.pointer]? = some v) (hsat : v.saturated = false) (w : Word) :
    s.openWord p x w = s.setPort p
      (PortState.statusShifted { s.port p with transaction := some x.step, dataOut := v.word } x) := by
  have hstatus : x.isStatus = true := by
    rw [Transaction.isStatus_iff, hhead, decodeHead_headWord]
    exact ⟨rfl, rfl⟩
  have hnot : ¬(x.isJoint = true ∧ x.offset = none) := by
    rw [Transaction.isJoint, hhead, decodeHead_headWord]
    exact fun ⟨hspace, _⟩ => absurd hspace (by decide)
  rw [State.openWord, if_neg hnot, if_pos hstatus, State.readItem_some hz hv, State.shiftOut_eq, wordOut_unsaturated hsat,
    State.updPort_setPort]

theorem State.openWord_offset {s : State} {p : Port} {x : Transaction} (hjoint : x.head.extractLsb' 8 3 = 6#3)
    (hoffset : x.offset = none) (w : Word) : s.openWord p x w = s.setPort p { s.port p with
      transaction := some { x with offset := some w, pointer := w.toNat }, dataOut := 0 } := by
  rw [State.openWord, if_pos ⟨x.isJoint_iff.mpr hjoint, hoffset⟩, State.takeOffset, State.shift_eq]

/-- Settles O50. -/
theorem statusReadClearsWhatItReturned : Obligations.StatusReadClearsWhatItReturned := by
  intro s p hr
  refine ⟨fun w ⟨hx, r, hs⟩ hrow => ⟨_, _, next_head hr hx hs hrow (State.openHead_eq hrow r),
    Transaction.begin_latched hs .openItem w _ [], ?_⟩, fun x w hx hk hz => ⟨fun hhead v hv hsat => ?_,
    fun hjoint hoffset => next_word hr hx hk (State.openWord_offset hjoint hoffset w),
    fun hoffset hclears => ⟨_, next_word hr hx hk (State.openWord_moved hoffset hclears w), s.readItem_moved p x⟩⟩⟩
  · rw [plainWords_word]
    exact openItemWords_shown s p w
  · have hexec : exec (.statusRead p (.word w)) s = .next (s.setPort p
        (PortState.statusShifted { s.port p with transaction := some x.step, dataOut := v.word } x)) :=
      next_word hr hx hk (State.openWord_status hz hhead hv hsat w)
    refine ⟨_, hexec, ?_, fun hfirst => ?_, fun hsecond => ?_, fun q hq => ?_, rfl, rfl, rfl⟩
    · rw [State.setPort_port, if_pos rfl, PortState.statusShifted_dataOut]
    · rw [State.setPort_port, if_pos rfl, PortState.statusShifted_first hv hfirst]
      exact ⟨PortState.clearEdges_getLsbD _ _, rfl, rfl, rfl⟩
    · rw [State.setPort_port, if_pos rfl, PortState.statusShifted_second hv hsecond]
      exact ⟨rfl, rfl, rfl, rfl⟩
    · rw [State.setPort_port, if_neg hq]

end Sys2Proof.Machine
